-- ==== Sys2Proof/Word.lean ====
section
/-!
DEFINITION. The two word widths of the machine (R4, R5 of 00_scope.md) and the split of a 16-bit value
into its high and low bytes (R21 of 10_state.md).
-/

namespace Sys2Proof

/-- An 8-bit value: a general register, a memory cell, a port datum. -/
abbrev Byte := BitVec 8

/-- A 16-bit value: a register pair, IX, IY, SP, PC, a memory or port address. -/
abbrev Word := BitVec 16

/-- The high byte of a word, `w[15:8]`. -/
def hiByte (w : Word) : Byte := w.extractLsb' 8 8

/-- The low byte of a word, `w[7:0]`. -/
def loByte (w : Word) : Byte := w.extractLsb' 0 8

/-- `hi ++ lo`: the word with these two bytes. -/
def joinBytes (hi lo : Byte) : Word := hi ++ lo

end Sys2Proof
end

