-- ==== Sys2Proof/Config.lean ====
section
/-!
DEFINITION. What the rules leave open: the accesses an environment can see, and the free values.
A free value is an opaque constant without a body, so that no proof can rest on what it is
(R12 of 00_scope.md, parameters of R4; log entries 4, 5 and 7).
-/

namespace Sys2Proof

/-- One access that the environment sees: an access to a port (R390 of 49_io.md), or to an address the
memory map gives to a device (R76 of 20_memory.md). -/
inductive BusEvent where
  /-- The CPU read `value` from port `port`. -/
  | portRead (port : Word) (value : Byte)
  /-- The CPU wrote `value` to port `port`. -/
  | portWrite (port : Word) (value : Byte)
  /-- The CPU read `value` from the device at memory address `addr`. -/
  | memRead (addr : Word) (value : Byte)
  /-- The CPU wrote `value` to the device at memory address `addr`. -/
  | memWrite (addr : Word) (value : Byte)
deriving DecidableEq, Repr

namespace Config

/-- `any1()` of R6 and R12: the n-th unconstrained bit drawn. DESIGN CHOICE, safe, log entry 4. -/
opaque freeBit : Nat → Bool

/-- `any8()` of R6 and R12: the n-th unconstrained byte drawn. DESIGN CHOICE, safe, log entry 4. -/
opaque freeByte : Nat → Byte

/-- `IoRead` (D8 of 92_eei_decisions.md): what a port answers, given the 16-bit port and the history of
accesses, where the environment's inputs do not say it. DESIGN CHOICE, safe, log entry 5. -/
opaque ioRead : Word → List BusEvent → Byte

/-- The oracle of R76 of 20_memory.md: what a memory-mapped device answers, given the address and the
history of accesses. DESIGN CHOICE, safe, log entry 7. -/
opaque deviceRead : Word → List BusEvent → Byte

end Config

end Sys2Proof
end

