-- ==== Sys2Proof/Syntax.lean ====
section
/-!
DEFINITION. The instructions as syntax: one constructor for each row of spec/opcode_table.json, with the
operand classes of R8 of 00_scope.md. An index displacement d and a relative displacement e are the
encoded bytes (R101, R102 of 30_encoding.md); the machine sign-extends them.
-/

namespace Sys2Proof

/-- The seven 8-bit registers that `r` and `r'` stand for (R20 of 10_state.md, R92 of 30_encoding.md). -/
inductive Reg8 where
  | b | c | d | e | h | l | a
deriving DecidableEq, Repr

/-- The pairs `dd` stands for (R93 of 30_encoding.md). -/
inductive PairDD where
  | bc | de | hl | sp
deriving DecidableEq, Repr

/-- The pairs `qq` stands for (R94 of 30_encoding.md). -/
inductive PairQQ where
  | bc | de | hl | af
deriving DecidableEq, Repr

/-- The pairs `pp` stands for, in `ADD IX,pp` (R95 of 30_encoding.md). -/
inductive PairPP where
  | bc | de | ix | sp
deriving DecidableEq, Repr

/-- The pairs `rr` stands for, in `ADD IY,rr` (R95 of 30_encoding.md). -/
inductive PairRR where
  | bc | de | iy | sp
deriving DecidableEq, Repr

/-- The eight conditions `cc` stands for (R96 of 30_encoding.md, R350 of 48_jump_call_return.md). -/
inductive Cond where
  | nz | z | nc | c | po | pe | p | m
deriving DecidableEq, Repr

/-- The instructions. A bit number `b` is a natural number that `Instr.wellFormed` keeps below 8 (R97); the
operand `p` of `RST p` is the restart address, which `Instr.wellFormed` keeps one of the eight of R98. -/
inductive Instr where
  -- 8-bit loads (40_load8.md)
  /-- `LD r,r'`, R130. -/
  | ldRegReg (r r' : Reg8)
  /-- `LD r,n`, R131. -/
  | ldRegImm (r : Reg8) (n : Byte)
  /-- `LD r,(HL)`, R132. -/
  | ldRegAtHL (r : Reg8)
  /-- `LD r,(IX+d)`, R133. -/
  | ldRegAtIX (r : Reg8) (d : Byte)
  /-- `LD r,(IY+d)`, R134. -/
  | ldRegAtIY (r : Reg8) (d : Byte)
  /-- `LD (HL),r`, R135. -/
  | ldAtHLReg (r : Reg8)
  /-- `LD (IX+d),r`, R136. -/
  | ldAtIXReg (d : Byte) (r : Reg8)
  /-- `LD (IY+d),r`, R137. -/
  | ldAtIYReg (d : Byte) (r : Reg8)
  /-- `LD (HL),n`, R138. -/
  | ldAtHLImm (n : Byte)
  /-- `LD (IX+d),n`, R139. -/
  | ldAtIXImm (d n : Byte)
  /-- `LD (IY+d),n`, R140. -/
  | ldAtIYImm (d n : Byte)
  /-- `LD A,(BC)`, R141. -/
  | ldAAtBC
  /-- `LD A,(DE)`, R142. -/
  | ldAAtDE
  /-- `LD A,(nn)`, R143. -/
  | ldAAtNN (nn : Word)
  /-- `LD (BC),A`, R144. -/
  | ldAtBCA
  /-- `LD (DE),A`, R145. -/
  | ldAtDEA
  /-- `LD (nn),A`, R146. -/
  | ldAtNNA (nn : Word)
  /-- `LD A,I`, R147. -/
  | ldAI
  /-- `LD A,R`, R148. -/
  | ldAR
  /-- `LD I,A`, R149. -/
  | ldIA
  /-- `LD R,A`, R150. -/
  | ldRA
  -- 16-bit loads, PUSH and POP (41_load16.md)
  /-- `LD dd,nn`, R160. -/
  | ldPairImm (p : PairDD) (nn : Word)
  /-- `LD IX,nn`, R161. -/
  | ldIXImm (nn : Word)
  /-- `LD IY,nn`, R162. -/
  | ldIYImm (nn : Word)
  /-- `LD HL,(nn)`, R163. -/
  | ldHLAtNN (nn : Word)
  /-- `LD dd,(nn)`, R164. -/
  | ldPairAtNN (p : PairDD) (nn : Word)
  /-- `LD IX,(nn)`, R165. -/
  | ldIXAtNN (nn : Word)
  /-- `LD IY,(nn)`, R166. -/
  | ldIYAtNN (nn : Word)
  /-- `LD (nn),HL`, R167. -/
  | ldAtNNHL (nn : Word)
  /-- `LD (nn),dd`, R168. -/
  | ldAtNNPair (nn : Word) (p : PairDD)
  /-- `LD (nn),IX`, R169. -/
  | ldAtNNIX (nn : Word)
  /-- `LD (nn),IY`, R170. -/
  | ldAtNNIY (nn : Word)
  /-- `LD SP,HL`, R171. -/
  | ldSPHL
  /-- `LD SP,IX`, R172. -/
  | ldSPIX
  /-- `LD SP,IY`, R173. -/
  | ldSPIY
  /-- `PUSH qq`, R174. -/
  | pushPair (q : PairQQ)
  /-- `PUSH IX`, R175. -/
  | pushIX
  /-- `PUSH IY`, R176. -/
  | pushIY
  /-- `POP qq`, R177. -/
  | popPair (q : PairQQ)
  /-- `POP IX`, R178. -/
  | popIX
  /-- `POP IY`, R179. -/
  | popIY
  -- Exchange, block transfer, block search (42_exchange_block.md)
  /-- `EX DE,HL`, R190. -/
  | exDEHL
  /-- `EX AF,AF'`, R191. -/
  | exAFAF
  /-- `EXX`, R192. -/
  | exx
  /-- `EX (SP),HL`, R193. -/
  | exAtSPHL
  /-- `EX (SP),IX`, R194. -/
  | exAtSPIX
  /-- `EX (SP),IY`, R195. -/
  | exAtSPIY
  /-- `LDI`, R196. -/
  | ldi
  /-- `LDIR`, R197. -/
  | ldir
  /-- `LDD`, R198. -/
  | ldd
  /-- `LDDR`, R199. -/
  | lddr
  /-- `CPI`, R200. -/
  | cpi
  /-- `CPIR`, R201. -/
  | cpir
  /-- `CPD`, R202. -/
  | cpd
  /-- `CPDR`, R203. -/
  | cpdr
  -- 8-bit arithmetic and logic (43_alu8.md)
  /-- `ADD A,r`, R221. -/
  | addReg (r : Reg8)
  /-- `ADD A,n`, R222. -/
  | addImm (n : Byte)
  /-- `ADD A,(HL)`, R223. -/
  | addAtHL
  /-- `ADD A,(IX+d)`, R224. -/
  | addAtIX (d : Byte)
  /-- `ADD A,(IY+d)`, R225. -/
  | addAtIY (d : Byte)
  /-- `ADC A,r`, R226. -/
  | adcReg (r : Reg8)
  /-- `ADC A,n`, R226. -/
  | adcImm (n : Byte)
  /-- `ADC A,(HL)`, R226. -/
  | adcAtHL
  /-- `ADC A,(IX+d)`, R226. -/
  | adcAtIX (d : Byte)
  /-- `ADC A,(IY+d)`, R226. -/
  | adcAtIY (d : Byte)
  /-- `SUB r`, R227. -/
  | subReg (r : Reg8)
  /-- `SUB n`, R227. -/
  | subImm (n : Byte)
  /-- `SUB (HL)`, R227. -/
  | subAtHL
  /-- `SUB (IX+d)`, R227. -/
  | subAtIX (d : Byte)
  /-- `SUB (IY+d)`, R227. -/
  | subAtIY (d : Byte)
  /-- `SBC A,r`, R228. -/
  | sbcReg (r : Reg8)
  /-- `SBC A,n`, R228. -/
  | sbcImm (n : Byte)
  /-- `SBC A,(HL)`, R228. -/
  | sbcAtHL
  /-- `SBC A,(IX+d)`, R228. -/
  | sbcAtIX (d : Byte)
  /-- `SBC A,(IY+d)`, R228. -/
  | sbcAtIY (d : Byte)
  /-- `AND r`, R229. -/
  | andReg (r : Reg8)
  /-- `AND n`, R229. -/
  | andImm (n : Byte)
  /-- `AND (HL)`, R229. -/
  | andAtHL
  /-- `AND (IX+d)`, R229. -/
  | andAtIX (d : Byte)
  /-- `AND (IY+d)`, R229. -/
  | andAtIY (d : Byte)
  /-- `OR r`, R230. -/
  | orReg (r : Reg8)
  /-- `OR n`, R230. -/
  | orImm (n : Byte)
  /-- `OR (HL)`, R230. -/
  | orAtHL
  /-- `OR (IX+d)`, R230. -/
  | orAtIX (d : Byte)
  /-- `OR (IY+d)`, R230. -/
  | orAtIY (d : Byte)
  /-- `XOR r`, R231. -/
  | xorReg (r : Reg8)
  /-- `XOR n`, R231. -/
  | xorImm (n : Byte)
  /-- `XOR (HL)`, R231. -/
  | xorAtHL
  /-- `XOR (IX+d)`, R231. -/
  | xorAtIX (d : Byte)
  /-- `XOR (IY+d)`, R231. -/
  | xorAtIY (d : Byte)
  /-- `CP r`, R232. -/
  | cpReg (r : Reg8)
  /-- `CP n`, R232. -/
  | cpImm (n : Byte)
  /-- `CP (HL)`, R232. -/
  | cpAtHL
  /-- `CP (IX+d)`, R232. -/
  | cpAtIX (d : Byte)
  /-- `CP (IY+d)`, R232. -/
  | cpAtIY (d : Byte)
  /-- `INC r`, R233. -/
  | incReg (r : Reg8)
  /-- `INC (HL)`, R234. -/
  | incAtHL
  /-- `INC (IX+d)`, R235. -/
  | incAtIX (d : Byte)
  /-- `INC (IY+d)`, R236. -/
  | incAtIY (d : Byte)
  /-- `DEC r`, R237. -/
  | decReg (r : Reg8)
  /-- `DEC (HL)`, R237. -/
  | decAtHL
  /-- `DEC (IX+d)`, R237. -/
  | decAtIX (d : Byte)
  /-- `DEC (IY+d)`, R237. -/
  | decAtIY (d : Byte)
  -- General arithmetic and CPU control (44_general_cpu_control.md)
  /-- `DAA`, R260. -/
  | daa
  /-- `CPL`, R261. -/
  | cpl
  /-- `NEG`, R262. -/
  | neg
  /-- `CCF`, R263. -/
  | ccf
  /-- `SCF`, R264. -/
  | scf
  /-- `NOP`, R265. -/
  | nop
  /-- `HALT`, R266. -/
  | halt
  /-- `DI`, R267. -/
  | di
  /-- `EI`, R268. -/
  | ei
  /-- `IM 0`, R269. -/
  | im0
  /-- `IM 1`, R270. -/
  | im1
  /-- `IM 2`, R271. -/
  | im2
  -- 16-bit arithmetic (45_arith16.md)
  /-- `ADD HL,dd`, R280. -/
  | addHLPair (p : PairDD)
  /-- `ADC HL,dd`, R281. -/
  | adcHLPair (p : PairDD)
  /-- `SBC HL,dd`, R282. -/
  | sbcHLPair (p : PairDD)
  /-- `ADD IX,pp`, R283. -/
  | addIXPair (p : PairPP)
  /-- `ADD IY,rr`, R284. -/
  | addIYPair (p : PairRR)
  /-- `INC dd`, R285. -/
  | incPair (p : PairDD)
  /-- `INC IX`, R286. -/
  | incIX
  /-- `INC IY`, R287. -/
  | incIY
  /-- `DEC dd`, R288. -/
  | decPair (p : PairDD)
  /-- `DEC IX`, R289. -/
  | decIX
  /-- `DEC IY`, R290. -/
  | decIY
  -- Rotate and shift (46_rotate_shift.md)
  /-- `RLCA`, R300. -/
  | rlca
  /-- `RLA`, R301. -/
  | rla
  /-- `RRCA`, R302. -/
  | rrca
  /-- `RRA`, R303. -/
  | rra
  /-- `RLC r`, R304. -/
  | rlcReg (r : Reg8)
  /-- `RLC (HL)`, R305. -/
  | rlcAtHL
  /-- `RLC (IX+d)`, R306. -/
  | rlcAtIX (d : Byte)
  /-- `RLC (IY+d)`, R307. -/
  | rlcAtIY (d : Byte)
  /-- `RL r`, R308. -/
  | rlReg (r : Reg8)
  /-- `RL (HL)`, R308. -/
  | rlAtHL
  /-- `RL (IX+d)`, R308. -/
  | rlAtIX (d : Byte)
  /-- `RL (IY+d)`, R308. -/
  | rlAtIY (d : Byte)
  /-- `RRC r`, R309. -/
  | rrcReg (r : Reg8)
  /-- `RRC (HL)`, R309. -/
  | rrcAtHL
  /-- `RRC (IX+d)`, R309. -/
  | rrcAtIX (d : Byte)
  /-- `RRC (IY+d)`, R309. -/
  | rrcAtIY (d : Byte)
  /-- `RR r`, R310. -/
  | rrReg (r : Reg8)
  /-- `RR (HL)`, R310. -/
  | rrAtHL
  /-- `RR (IX+d)`, R310. -/
  | rrAtIX (d : Byte)
  /-- `RR (IY+d)`, R310. -/
  | rrAtIY (d : Byte)
  /-- `SLA r`, R311. -/
  | slaReg (r : Reg8)
  /-- `SLA (HL)`, R311. -/
  | slaAtHL
  /-- `SLA (IX+d)`, R311. -/
  | slaAtIX (d : Byte)
  /-- `SLA (IY+d)`, R311. -/
  | slaAtIY (d : Byte)
  /-- `SRA r`, R312. -/
  | sraReg (r : Reg8)
  /-- `SRA (HL)`, R312. -/
  | sraAtHL
  /-- `SRA (IX+d)`, R312. -/
  | sraAtIX (d : Byte)
  /-- `SRA (IY+d)`, R312. -/
  | sraAtIY (d : Byte)
  /-- `SRL r`, R313. -/
  | srlReg (r : Reg8)
  /-- `SRL (HL)`, R313. -/
  | srlAtHL
  /-- `SRL (IX+d)`, R313. -/
  | srlAtIX (d : Byte)
  /-- `SRL (IY+d)`, R313. -/
  | srlAtIY (d : Byte)
  /-- `RLD`, R314. -/
  | rld
  /-- `RRD`, R315. -/
  | rrd
  -- Bit set, reset and test (47_bit.md)
  /-- `BIT b,r`, R330. -/
  | bitReg (b : Nat) (r : Reg8)
  /-- `BIT b,(HL)`, R331. -/
  | bitAtHL (b : Nat)
  /-- `BIT b,(IX+d)`, R332. -/
  | bitAtIX (b : Nat) (d : Byte)
  /-- `BIT b,(IY+d)`, R333. -/
  | bitAtIY (b : Nat) (d : Byte)
  /-- `SET b,r`, R334. -/
  | setReg (b : Nat) (r : Reg8)
  /-- `SET b,(HL)`, R335. -/
  | setAtHL (b : Nat)
  /-- `SET b,(IX+d)`, R336. -/
  | setAtIX (b : Nat) (d : Byte)
  /-- `SET b,(IY+d)`, R337. -/
  | setAtIY (b : Nat) (d : Byte)
  /-- `RES b,r`, R338. -/
  | resReg (b : Nat) (r : Reg8)
  /-- `RES b,(HL)`, R338. -/
  | resAtHL (b : Nat)
  /-- `RES b,(IX+d)`, R338. -/
  | resAtIX (b : Nat) (d : Byte)
  /-- `RES b,(IY+d)`, R338. -/
  | resAtIY (b : Nat) (d : Byte)
  -- Jumps (48_jump_call_return.md)
  /-- `JP nn`, R351. -/
  | jpImm (nn : Word)
  /-- `JP cc,nn`, R352. -/
  | jpCond (cc : Cond) (nn : Word)
  /-- `JR e`, R353. -/
  | jr (e : Byte)
  /-- `JR C,e`, R354. -/
  | jrC (e : Byte)
  /-- `JR NC,e`, R355. -/
  | jrNC (e : Byte)
  /-- `JR Z,e`, R356. -/
  | jrZ (e : Byte)
  /-- `JR NZ,e`, R357. -/
  | jrNZ (e : Byte)
  /-- `JP (HL)`, R358. -/
  | jpHL
  /-- `JP (IX)`, R359. -/
  | jpIX
  /-- `JP (IY)`, R360. -/
  | jpIY
  /-- `DJNZ e`, R361. -/
  | djnz (e : Byte)
  -- Call and return (48_jump_call_return.md)
  /-- `CALL nn`, R362. -/
  | callImm (nn : Word)
  /-- `CALL cc,nn`, R363. -/
  | callCond (cc : Cond) (nn : Word)
  /-- `RET`, R364. -/
  | ret
  /-- `RET cc`, R365. -/
  | retCond (cc : Cond)
  /-- `RETI`, R366. -/
  | reti
  /-- `RETN`, R367. -/
  | retn
  /-- `RST p`, R368. -/
  | rst (p : Byte)
  -- Input and output (49_io.md)
  /-- `IN A,(n)`, R391. -/
  | inAImm (n : Byte)
  /-- `IN r,(C)`, R392. -/
  | inRegC (r : Reg8)
  /-- `INI`, R393. -/
  | ini
  /-- `INIR`, R394. -/
  | inir
  /-- `IND`, R395. -/
  | ind
  /-- `INDR`, R396. -/
  | indr
  /-- `OUT (n),A`, R397. -/
  | outImmA (n : Byte)
  /-- `OUT (C),r`, R398. -/
  | outCReg (r : Reg8)
  /-- `OUTI`, R399. -/
  | outi
  /-- `OTIR`, R400. -/
  | otir
  /-- `OUTD`, R401. -/
  | outd
  /-- `OTDR`, R402. -/
  | otdr
deriving DecidableEq, Repr

end Sys2Proof
end

