-- ==== Sys2Proof/WellFormed.lean ====
section
/-!
DEFINITION. Which instructions are meaningful: the two operands whose Lean type is wider than what the
encoding admits are a bit number (R97 of 30_encoding.md) and a restart address (R98).
-/

namespace Sys2Proof

/-- A bit number is 0 to 7 (R97 of 30_encoding.md). -/
def bitNumberOk (b : Nat) : Bool := b < 8

/-- A restart address is `8 * t` for a 3-bit `t`: 00h, 08h, .., 38h (R98 of 30_encoding.md). -/
def restartOk (p : Byte) : Bool := p.toNat % 8 == 0 && p.toNat < 64

/-- The operand checks of an instruction (R97, R98 of 30_encoding.md). -/
def Instr.wellFormed : Instr → Bool
  | .ldRegReg _ _ | .ldRegImm _ _ | .ldRegAtHL _ | .ldRegAtIX _ _ | .ldRegAtIY _ _ | .ldAtHLReg _
  | .ldAtIXReg _ _ | .ldAtIYReg _ _ | .ldAtHLImm _ | .ldAtIXImm _ _ | .ldAtIYImm _ _ | .ldAAtBC
  | .ldAAtDE | .ldAAtNN _ | .ldAtBCA | .ldAtDEA | .ldAtNNA _ | .ldAI | .ldAR | .ldIA | .ldRA => true
  | .ldPairImm _ _ | .ldIXImm _ | .ldIYImm _ | .ldHLAtNN _ | .ldPairAtNN _ _ | .ldIXAtNN _ | .ldIYAtNN _
  | .ldAtNNHL _ | .ldAtNNPair _ _ | .ldAtNNIX _ | .ldAtNNIY _ | .ldSPHL | .ldSPIX | .ldSPIY
  | .pushPair _ | .pushIX | .pushIY | .popPair _ | .popIX | .popIY => true
  | .exDEHL | .exAFAF | .exx | .exAtSPHL | .exAtSPIX | .exAtSPIY | .ldi | .ldir | .ldd | .lddr | .cpi
  | .cpir | .cpd | .cpdr => true
  | .addReg _ | .addImm _ | .addAtHL | .addAtIX _ | .addAtIY _ | .adcReg _ | .adcImm _ | .adcAtHL
  | .adcAtIX _ | .adcAtIY _ | .subReg _ | .subImm _ | .subAtHL | .subAtIX _ | .subAtIY _ | .sbcReg _
  | .sbcImm _ | .sbcAtHL | .sbcAtIX _ | .sbcAtIY _ | .andReg _ | .andImm _ | .andAtHL | .andAtIX _
  | .andAtIY _ | .orReg _ | .orImm _ | .orAtHL | .orAtIX _ | .orAtIY _ | .xorReg _ | .xorImm _
  | .xorAtHL | .xorAtIX _ | .xorAtIY _ | .cpReg _ | .cpImm _ | .cpAtHL | .cpAtIX _ | .cpAtIY _
  | .incReg _ | .incAtHL | .incAtIX _ | .incAtIY _ | .decReg _ | .decAtHL | .decAtIX _ | .decAtIY _ => true
  | .daa | .cpl | .neg | .ccf | .scf | .nop | .halt | .di | .ei | .im0 | .im1 | .im2 => true
  | .addHLPair _ | .adcHLPair _ | .sbcHLPair _ | .addIXPair _ | .addIYPair _ | .incPair _ | .incIX
  | .incIY | .decPair _ | .decIX | .decIY => true
  | .rlca | .rla | .rrca | .rra | .rlcReg _ | .rlcAtHL | .rlcAtIX _ | .rlcAtIY _ | .rlReg _ | .rlAtHL
  | .rlAtIX _ | .rlAtIY _ | .rrcReg _ | .rrcAtHL | .rrcAtIX _ | .rrcAtIY _ | .rrReg _ | .rrAtHL
  | .rrAtIX _ | .rrAtIY _ | .slaReg _ | .slaAtHL | .slaAtIX _ | .slaAtIY _ | .sraReg _ | .sraAtHL
  | .sraAtIX _ | .sraAtIY _ | .srlReg _ | .srlAtHL | .srlAtIX _ | .srlAtIY _ | .rld | .rrd => true
  | .bitReg b _ => bitNumberOk b
  | .bitAtHL b => bitNumberOk b
  | .bitAtIX b _ => bitNumberOk b
  | .bitAtIY b _ => bitNumberOk b
  | .setReg b _ => bitNumberOk b
  | .setAtHL b => bitNumberOk b
  | .setAtIX b _ => bitNumberOk b
  | .setAtIY b _ => bitNumberOk b
  | .resReg b _ => bitNumberOk b
  | .resAtHL b => bitNumberOk b
  | .resAtIX b _ => bitNumberOk b
  | .resAtIY b _ => bitNumberOk b
  | .jpImm _ | .jpCond _ _ | .jr _ | .jrC _ | .jrNC _ | .jrZ _ | .jrNZ _ | .jpHL | .jpIX | .jpIY
  | .djnz _ => true
  | .rst p => restartOk p
  | .callImm _ | .callCond _ _ | .ret | .retCond _ | .reti | .retn => true
  | .inAImm _ | .inRegC _ | .ini | .inir | .ind | .indr | .outImmA _ | .outCReg _ | .outi | .otir
  | .outd | .otdr => true

end Sys2Proof
end

