-- ==== Sys2Proof/Decode.lean ====
section
/-!
DEFINITION. The decoder (R103 to R109 of 30_encoding.md), total on any bytes and rejecting by name, and after
it the encoder (R91 to R98, R113, R114).
-/

namespace Sys2Proof

/-! ## What the decoder answers -/

/-- Why bytes are no instruction. -/
inductive Reject where
  /-- The bytes end before the instruction does. -/
  | truncated
  /-- `CBh op` with a reserved `op` (R109). -/
  | reservedCB (op : Byte)
  /-- `EDh op` with a reserved `op` (R109). -/
  | reservedED (op : Byte)
  /-- `DDh op` or `FDh op` with a reserved `op` (R109). -/
  | reservedXY (op : Byte)
  /-- `DDh CBh d op` or `FDh CBh d op` with a reserved `op` (R109). -/
  | reservedXYCB (op : Byte)
deriving DecidableEq, Repr

/-- The decoder's answer: an instruction and the bytes after it, or a named rejection. -/
inductive Decoded where
  | ok (i : Instr) (rest : List Byte)
  | reject (why : Reject)
deriving DecidableEq, Repr

/-- The instruction read, if one was. -/
def Decoded.instr? : Decoded → Option Instr
  | .ok i _ => some i
  | .reject _ => none

/-- The index register a DDh or FDh page names (R107). -/
inductive Index where
  | ix | iy
deriving DecidableEq, Repr

/-! ## Fields of an opcode byte, `xx yyy zzz` (R104) -/

/-- Bits 7:6 of an opcode. -/
def fieldX (op : Byte) : Nat := op.toNat / 64

/-- Bits 5:3 of an opcode. -/
def fieldY (op : Byte) : Nat := op.toNat / 8 % 8

/-- Bits 2:0 of an opcode. -/
def fieldZ (op : Byte) : Nat := op.toNat % 8

/-- The register with a 3-bit code; 110 is no register (R92). -/
def regOfCode : Nat → Option Reg8
  | 0 => some .b
  | 1 => some .c
  | 2 => some .d
  | 3 => some .e
  | 4 => some .h
  | 5 => some .l
  | 6 => none
  | _ => some .a

/-- The pair dd of a `yyy` field, whose two high bits are the pair code (R93). -/
def ddOfField (y : Nat) : PairDD :=
  match y / 2 with
  | 0 => .bc
  | 1 => .de
  | 2 => .hl
  | _ => .sp

/-- The pair qq of a `yyy` field (R94). -/
def qqOfField (y : Nat) : PairQQ :=
  match y / 2 with
  | 0 => .bc
  | 1 => .de
  | 2 => .hl
  | _ => .af

/-- The pair pp of a `yyy` field (R95). -/
def ppOfField (y : Nat) : PairPP :=
  match y / 2 with
  | 0 => .bc
  | 1 => .de
  | 2 => .ix
  | _ => .sp

/-- The pair rr of a `yyy` field (R95). -/
def rrOfField (y : Nat) : PairRR :=
  match y / 2 with
  | 0 => .bc
  | 1 => .de
  | 2 => .iy
  | _ => .sp

/-- The condition with a 3-bit code (R96). -/
def condOfCode : Nat → Cond
  | 0 => .nz
  | 1 => .z
  | 2 => .nc
  | 3 => .c
  | 4 => .po
  | 5 => .pe
  | 6 => .p
  | _ => .m

/-! ## Operand bytes after the opcode (R99 to R102) -/

/-- One operand byte: n, d or e. -/
def withByte (mk : Byte → Instr) : List Byte → Decoded
  | n :: rest => .ok (mk n) rest
  | [] => .reject .truncated

/-- Two operand bytes, d then n (R91, format `XY_OP_D_N`). -/
def withTwoBytes (mk : Byte → Byte → Instr) : List Byte → Decoded
  | d :: n :: rest => .ok (mk d n) rest
  | _ => .reject .truncated

/-- A 16-bit operand, low byte first (R100). -/
def withWord (mk : Word → Instr) : List Byte → Decoded
  | nl :: nh :: rest => .ok (mk (joinBytes nh nl)) rest
  | _ => .reject .truncated

/-! ## Operation codes -/

/-- The instruction of an ALU operation code (R113) with a register or, at code 110, `(HL)`. -/
def aluInstr (ooo : Nat) : Option Reg8 → Instr
  | some r =>
    match ooo with
    | 0 => .addReg r
    | 1 => .adcReg r
    | 2 => .subReg r
    | 3 => .sbcReg r
    | 4 => .andReg r
    | 5 => .xorReg r
    | 6 => .orReg r
    | _ => .cpReg r
  | none =>
    match ooo with
    | 0 => .addAtHL
    | 1 => .adcAtHL
    | 2 => .subAtHL
    | 3 => .sbcAtHL
    | 4 => .andAtHL
    | 5 => .xorAtHL
    | 6 => .orAtHL
    | _ => .cpAtHL

/-- The instruction of an ALU operation code with an immediate (R113). -/
def aluImmInstr (ooo : Nat) (n : Byte) : Instr :=
  match ooo with
  | 0 => .addImm n
  | 1 => .adcImm n
  | 2 => .subImm n
  | 3 => .sbcImm n
  | 4 => .andImm n
  | 5 => .xorImm n
  | 6 => .orImm n
  | _ => .cpImm n

/-- The instruction of an ALU operation code with `(IX+d)` or `(IY+d)` (R107, R113). -/
def aluIndexInstr (ooo : Nat) : Index → Byte → Instr
  | .ix, d =>
    match ooo with
    | 0 => .addAtIX d
    | 1 => .adcAtIX d
    | 2 => .subAtIX d
    | 3 => .sbcAtIX d
    | 4 => .andAtIX d
    | 5 => .xorAtIX d
    | 6 => .orAtIX d
    | _ => .cpAtIX d
  | .iy, d =>
    match ooo with
    | 0 => .addAtIY d
    | 1 => .adcAtIY d
    | 2 => .subAtIY d
    | 3 => .sbcAtIY d
    | 4 => .andAtIY d
    | 5 => .xorAtIY d
    | 6 => .orAtIY d
    | _ => .cpAtIY d

/-- The instruction of a rotate or shift operation code (R114) with a register or `(HL)`; code 110 is not
assigned. -/
def rotInstr (ooo : Nat) : Option Reg8 → Option Instr
  | some r =>
    match ooo with
    | 0 => some (.rlcReg r)
    | 1 => some (.rrcReg r)
    | 2 => some (.rlReg r)
    | 3 => some (.rrReg r)
    | 4 => some (.slaReg r)
    | 5 => some (.sraReg r)
    | 6 => none
    | _ => some (.srlReg r)
  | none =>
    match ooo with
    | 0 => some .rlcAtHL
    | 1 => some .rrcAtHL
    | 2 => some .rlAtHL
    | 3 => some .rrAtHL
    | 4 => some .slaAtHL
    | 5 => some .sraAtHL
    | 6 => none
    | _ => some .srlAtHL

/-- The instruction of a rotate or shift operation code with `(IX+d)` or `(IY+d)` (R108, R114). -/
def rotIndexInstr (ooo : Nat) : Index → Byte → Option Instr
  | .ix, d =>
    match ooo with
    | 0 => some (.rlcAtIX d)
    | 1 => some (.rrcAtIX d)
    | 2 => some (.rlAtIX d)
    | 3 => some (.rrAtIX d)
    | 4 => some (.slaAtIX d)
    | 5 => some (.sraAtIX d)
    | 6 => none
    | _ => some (.srlAtIX d)
  | .iy, d =>
    match ooo with
    | 0 => some (.rlcAtIY d)
    | 1 => some (.rrcAtIY d)
    | 2 => some (.rlAtIY d)
    | 3 => some (.rrAtIY d)
    | 4 => some (.slaAtIY d)
    | 5 => some (.sraAtIY d)
    | 6 => none
    | _ => some (.srlAtIY d)

/-- The IX or the IY form of an instruction (R107). -/
def forIndex (forIX forIY : Instr) : Index → Instr
  | .ix => forIX
  | .iy => forIY

/-! ## The opcode pages -/

/-- Page CB, after the byte CBh (R105). -/
def decodeCB : List Byte → Decoded
  | [] => .reject .truncated
  | op :: rest =>
    match fieldX op, regOfCode (fieldZ op) with
    | 0, m =>
      match rotInstr (fieldY op) m with
      | some i => .ok i rest
      | none => .reject (.reservedCB op)
    | 1, some r => .ok (.bitReg (fieldY op) r) rest
    | 1, none => .ok (.bitAtHL (fieldY op)) rest
    | 2, some r => .ok (.resReg (fieldY op) r) rest
    | 2, none => .ok (.resAtHL (fieldY op)) rest
    | _, some r => .ok (.setReg (fieldY op) r) rest
    | _, none => .ok (.setAtHL (fieldY op)) rest

/-- Pages DDCB and FDCB, after `DDh CBh` or `FDh CBh`: d, then the opcode (R108). -/
def decodeXYCB (x : Index) : List Byte → Decoded
  | d :: op :: rest =>
    if fieldZ op = 6 then
      match fieldX op with
      | 0 =>
        match rotIndexInstr (fieldY op) x d with
        | some i => .ok i rest
        | none => .reject (.reservedXYCB op)
      | 1 => .ok (forIndex (.bitAtIX (fieldY op) d) (.bitAtIY (fieldY op) d) x) rest
      | 2 => .ok (forIndex (.resAtIX (fieldY op) d) (.resAtIY (fieldY op) d) x) rest
      | _ => .ok (forIndex (.setAtIX (fieldY op) d) (.setAtIY (fieldY op) d) x) rest
    else .reject (.reservedXYCB op)
  | _ => .reject .truncated

/-- The part of pages DD and FD whose opcode has `xx = 00` (R107). -/
def decodeXY0 (x : Index) (op : Byte) (rest : List Byte) : Decoded :=
  match fieldY op, fieldZ op with
  | 4, 1 => withWord (fun nn => forIndex (.ldIXImm nn) (.ldIYImm nn) x) rest
  | 4, 2 => withWord (fun nn => forIndex (.ldAtNNIX nn) (.ldAtNNIY nn) x) rest
  | 5, 2 => withWord (fun nn => forIndex (.ldIXAtNN nn) (.ldIYAtNN nn) x) rest
  | 4, 3 => .ok (forIndex .incIX .incIY x) rest
  | 5, 3 => .ok (forIndex .decIX .decIY x) rest
  | 6, 4 => withByte (fun d => forIndex (.incAtIX d) (.incAtIY d) x) rest
  | 6, 5 => withByte (fun d => forIndex (.decAtIX d) (.decAtIY d) x) rest
  | 6, 6 => withTwoBytes (fun d n => forIndex (.ldAtIXImm d n) (.ldAtIYImm d n) x) rest
  | y, 1 =>
    if y % 2 = 1 then .ok (forIndex (.addIXPair (ppOfField y)) (.addIYPair (rrOfField y)) x) rest
    else .reject (.reservedXY op)
  | _, _ => .reject (.reservedXY op)

/-- The part of pages DD and FD whose opcode has `xx = 11` (R107). -/
def decodeXY3 (x : Index) (op : Byte) (rest : List Byte) : Decoded :=
  match fieldY op, fieldZ op with
  | 4, 1 => .ok (forIndex .popIX .popIY x) rest
  | 4, 3 => .ok (forIndex .exAtSPIX .exAtSPIY x) rest
  | 4, 5 => .ok (forIndex .pushIX .pushIY x) rest
  | 5, 1 => .ok (forIndex .jpIX .jpIY x) rest
  | 7, 1 => .ok (forIndex .ldSPIX .ldSPIY x) rest
  | 1, 3 => decodeXYCB x rest
  | _, _ => .reject (.reservedXY op)

/-- Pages DD and FD, after the byte DDh or FDh (R107). -/
def decodeXY (x : Index) : List Byte → Decoded
  | [] => .reject .truncated
  | op :: rest =>
    match fieldX op with
    | 0 => decodeXY0 x op rest
    | 1 =>
      match regOfCode (fieldY op), regOfCode (fieldZ op) with
      | some r, none => withByte (fun d => forIndex (.ldRegAtIX r d) (.ldRegAtIY r d) x) rest
      | none, some r => withByte (fun d => forIndex (.ldAtIXReg d r) (.ldAtIYReg d r) x) rest
      | _, _ => .reject (.reservedXY op)
    | 2 =>
      if fieldZ op = 6 then withByte (aluIndexInstr (fieldY op) x) rest
      else .reject (.reservedXY op)
    | _ => decodeXY3 x op rest

/-- The block instructions of page ED, opcodes A0 to BB (R106). -/
def blockInstr : Nat → Nat → Option Instr
  | 4, 0 => some .ldi
  | 4, 1 => some .cpi
  | 4, 2 => some .ini
  | 4, 3 => some .outi
  | 5, 0 => some .ldd
  | 5, 1 => some .cpd
  | 5, 2 => some .ind
  | 5, 3 => some .outd
  | 6, 0 => some .ldir
  | 6, 1 => some .cpir
  | 6, 2 => some .inir
  | 6, 3 => some .otir
  | 7, 0 => some .lddr
  | 7, 1 => some .cpdr
  | 7, 2 => some .indr
  | 7, 3 => some .otdr
  | _, _ => none

/-- The instructions of page ED with `xx = 01` and `zzz` 4 to 7 (R106). -/
def edMiscInstr : Nat → Nat → Option Instr
  | 0, 4 => some .neg
  | 0, 5 => some .retn
  | 1, 5 => some .reti
  | 0, 6 => some .im0
  | 2, 6 => some .im1
  | 3, 6 => some .im2
  | 0, 7 => some .ldIA
  | 1, 7 => some .ldRA
  | 2, 7 => some .ldAI
  | 3, 7 => some .ldAR
  | 4, 7 => some .rrd
  | 5, 7 => some .rld
  | _, _ => none

/-- An instruction without operand bytes, or the rejection of a reserved ED opcode (R109). -/
def orReservedED (op : Byte) (rest : List Byte) : Option Instr → Decoded
  | some i => .ok i rest
  | none => .reject (.reservedED op)

/-- Page ED, after the byte EDh (R106). -/
def decodeED : List Byte → Decoded
  | [] => .reject .truncated
  | op :: rest =>
    match fieldX op with
    | 1 =>
      match fieldZ op with
      | 0 => orReservedED op rest ((regOfCode (fieldY op)).map .inRegC)
      | 1 => orReservedED op rest ((regOfCode (fieldY op)).map .outCReg)
      | 2 =>
        if fieldY op % 2 = 0 then .ok (.sbcHLPair (ddOfField (fieldY op))) rest
        else .ok (.adcHLPair (ddOfField (fieldY op))) rest
      | 3 =>
        if fieldY op % 2 = 0 then withWord (fun nn => .ldAtNNPair nn (ddOfField (fieldY op))) rest
        else withWord (.ldPairAtNN (ddOfField (fieldY op))) rest
      | z => orReservedED op rest (edMiscInstr (fieldY op) z)
    | 2 => orReservedED op rest (blockInstr (fieldY op) (fieldZ op))
    | _ => .reject (.reservedED op)

/-- Base page, `xx = 00` (R104). -/
def decodeBase0 (y : Nat) (rest : List Byte) : Nat → Decoded
  | 0 =>
    match y with
    | 0 => .ok .nop rest
    | 1 => .ok .exAFAF rest
    | 2 => withByte .djnz rest
    | 3 => withByte .jr rest
    | 4 => withByte .jrNZ rest
    | 5 => withByte .jrZ rest
    | 6 => withByte .jrNC rest
    | _ => withByte .jrC rest
  | 1 => if y % 2 = 0 then withWord (.ldPairImm (ddOfField y)) rest else .ok (.addHLPair (ddOfField y)) rest
  | 2 =>
    match y with
    | 0 => .ok .ldAtBCA rest
    | 1 => .ok .ldAAtBC rest
    | 2 => .ok .ldAtDEA rest
    | 3 => .ok .ldAAtDE rest
    | 4 => withWord .ldAtNNHL rest
    | 5 => withWord .ldHLAtNN rest
    | 6 => withWord .ldAtNNA rest
    | _ => withWord .ldAAtNN rest
  | 3 => if y % 2 = 0 then .ok (.incPair (ddOfField y)) rest else .ok (.decPair (ddOfField y)) rest
  | 4 =>
    match regOfCode y with
    | some r => .ok (.incReg r) rest
    | none => .ok .incAtHL rest
  | 5 =>
    match regOfCode y with
    | some r => .ok (.decReg r) rest
    | none => .ok .decAtHL rest
  | 6 =>
    match regOfCode y with
    | some r => withByte (.ldRegImm r) rest
    | none => withByte .ldAtHLImm rest
  | _ =>
    match y with
    | 0 => .ok .rlca rest
    | 1 => .ok .rrca rest
    | 2 => .ok .rla rest
    | 3 => .ok .rra rest
    | 4 => .ok .daa rest
    | 5 => .ok .cpl rest
    | 6 => .ok .scf rest
    | _ => .ok .ccf rest

/-- Base page, `xx = 01`: the register loads and HALT (R104). -/
def decodeBase1 (rest : List Byte) : Option Reg8 → Option Reg8 → Decoded
  | some r, some r' => .ok (.ldRegReg r r') rest
  | some r, none => .ok (.ldRegAtHL r) rest
  | none, some r => .ok (.ldAtHLReg r) rest
  | none, none => .ok .halt rest

/-- Base page, `xx = 11`, with the four bytes that open another page (R104). -/
def decodeBase3 (y : Nat) (rest : List Byte) : Nat → Decoded
  | 0 => .ok (.retCond (condOfCode y)) rest
  | 1 =>
    match y with
    | 1 => .ok .ret rest
    | 3 => .ok .exx rest
    | 5 => .ok .jpHL rest
    | 7 => .ok .ldSPHL rest
    | _ => .ok (.popPair (qqOfField y)) rest
  | 2 => withWord (.jpCond (condOfCode y)) rest
  | 3 =>
    match y with
    | 0 => withWord .jpImm rest
    | 1 => decodeCB rest
    | 2 => withByte .outImmA rest
    | 3 => withByte .inAImm rest
    | 4 => .ok .exAtSPHL rest
    | 5 => .ok .exDEHL rest
    | 6 => .ok .di rest
    | _ => .ok .ei rest
  | 4 => withWord (.callCond (condOfCode y)) rest
  | 5 =>
    match y with
    | 1 => withWord .callImm rest
    | 3 => decodeXY .ix rest
    | 5 => decodeED rest
    | 7 => decodeXY .iy rest
    | _ => .ok (.pushPair (qqOfField y)) rest
  | 6 => withByte (aluImmInstr y) rest
  | _ => .ok (.rst (BitVec.ofNat 8 (8 * y))) rest

/-- The decoder: the instruction that a list of bytes starts with, and the bytes after it (R103). -/
def decode : List Byte → Decoded
  | [] => .reject .truncated
  | op :: rest =>
    match fieldX op with
    | 0 => decodeBase0 (fieldY op) rest (fieldZ op)
    | 1 => decodeBase1 rest (regOfCode (fieldY op)) (regOfCode (fieldZ op))
    | 2 => .ok (aluInstr (fieldY op) (regOfCode (fieldZ op))) rest
    | _ => decodeBase3 (fieldY op) rest (fieldZ op)

/-! ## How many bytes to fetch (R103: the length depends only on the page and the opcode byte) -/

/-- CBh, DDh, EDh and FDh open another opcode page (R90). -/
def opensPage (b0 : Byte) : Bool := b0 == 0xCB || b0 == 0xDD || b0 == 0xED || b0 == 0xFD

/-- The operand bytes of a base-page opcode that opens no other page (R104). -/
def operandBytes (op : Byte) : Nat :=
  match fieldX op, fieldY op, fieldZ op with
  | 0, y, 0 => if y < 2 then 0 else 1
  | 0, y, 1 => if y % 2 = 0 then 2 else 0
  | 0, y, 2 => if y < 4 then 0 else 2
  | 0, _, 6 => 1
  | 3, _, 2 => 2
  | 3, 0, 3 => 2
  | 3, 2, 3 => 1
  | 3, 3, 3 => 1
  | 3, _, 4 => 2
  | 3, 1, 5 => 2
  | 3, _, 6 => 1
  | _, _, _ => 0

/-- The bytes still to fetch after a page-opening byte and the byte `op` after it (R105 to R108). -/
def bytesAfterPage (b0 op : Byte) : Nat :=
  if b0 == 0xCB then 0
  else if b0 == 0xED then
    if fieldX op = 1 ∧ fieldZ op = 3 then 2 else 0
  else
    match fieldX op, fieldY op, fieldZ op with
    | 0, 4, 1 => 2
    | 0, 4, 2 => 2
    | 0, 5, 2 => 2
    | 0, 6, 4 => 1
    | 0, 6, 5 => 1
    | 0, 6, 6 => 2
    | 1, 6, 6 => 0
    | 1, 6, _ => 1
    | 1, _, 6 => 1
    | 2, _, 6 => 1
    | 3, 1, 3 => 2
    | _, _, _ => 0

/-! ## The encoder (R91 to R98, R113, R114) -/

/-- The 3-bit code of a register (R92). -/
def Reg8.code : Reg8 → BitVec 3
  | .b => 0b000
  | .c => 0b001
  | .d => 0b010
  | .e => 0b011
  | .h => 0b100
  | .l => 0b101
  | .a => 0b111

/-- The 2-bit code of a pair dd (R93). -/
def PairDD.code : PairDD → BitVec 2
  | .bc => 0b00
  | .de => 0b01
  | .hl => 0b10
  | .sp => 0b11

/-- The 2-bit code of a pair qq (R94). -/
def PairQQ.code : PairQQ → BitVec 2
  | .bc => 0b00
  | .de => 0b01
  | .hl => 0b10
  | .af => 0b11

/-- The 2-bit code of a pair pp (R95). -/
def PairPP.code : PairPP → BitVec 2
  | .bc => 0b00
  | .de => 0b01
  | .ix => 0b10
  | .sp => 0b11

/-- The 2-bit code of a pair rr (R95). -/
def PairRR.code : PairRR → BitVec 2
  | .bc => 0b00
  | .de => 0b01
  | .iy => 0b10
  | .sp => 0b11

/-- The 3-bit code of a condition (R96). -/
def Cond.code : Cond → BitVec 3
  | .nz => 0b000
  | .z => 0b001
  | .nc => 0b010
  | .c => 0b011
  | .po => 0b100
  | .pe => 0b101
  | .p => 0b110
  | .m => 0b111

/-- An opcode byte `xx yyy zzz`. -/
def opcode (x : BitVec 2) (y z : BitVec 3) : Byte := x ++ y ++ z

/-- An opcode byte `xx pp q zzz`. -/
def opcodePair (x p : BitVec 2) (q : BitVec 1) (z : BitVec 3) : Byte := x ++ p ++ q ++ z

/-- The 3-bit code of a bit number (R97). -/
def bitCode (b : Nat) : BitVec 3 := BitVec.ofNat 3 b

/-- The code 110, which stands for `(HL)`, `(IX+d)` or `(IY+d)` where a register code may stand (R92). -/
def codeAtHL : BitVec 3 := 0b110

/-- The bytes of an instruction, in increasing address order (R91). -/
def encode : Instr → List Byte
  -- 8-bit loads (40_load8.md)
  | .ldRegReg r r' => [opcode 0b01 r.code r'.code]
  | .ldRegImm r n => [opcode 0b00 r.code codeAtHL, n]
  | .ldRegAtHL r => [opcode 0b01 r.code codeAtHL]
  | .ldRegAtIX r d => [0xDD, opcode 0b01 r.code codeAtHL, d]
  | .ldRegAtIY r d => [0xFD, opcode 0b01 r.code codeAtHL, d]
  | .ldAtHLReg r => [opcode 0b01 0b110 r.code]
  | .ldAtIXReg d r => [0xDD, opcode 0b01 0b110 r.code, d]
  | .ldAtIYReg d r => [0xFD, opcode 0b01 0b110 r.code, d]
  | .ldAtHLImm n => [0x36, n]
  | .ldAtIXImm d n => [0xDD, 0x36, d, n]
  | .ldAtIYImm d n => [0xFD, 0x36, d, n]
  | .ldAAtBC => [0x0A]
  | .ldAAtDE => [0x1A]
  | .ldAAtNN nn => [0x3A, loByte nn, hiByte nn]
  | .ldAtBCA => [0x02]
  | .ldAtDEA => [0x12]
  | .ldAtNNA nn => [0x32, loByte nn, hiByte nn]
  | .ldAI => [0xED, 0x57]
  | .ldAR => [0xED, 0x5F]
  | .ldIA => [0xED, 0x47]
  | .ldRA => [0xED, 0x4F]
  -- 16-bit loads, PUSH and POP (41_load16.md)
  | .ldPairImm p nn => [opcodePair 0b00 p.code 0b0 0b001, loByte nn, hiByte nn]
  | .ldIXImm nn => [0xDD, 0x21, loByte nn, hiByte nn]
  | .ldIYImm nn => [0xFD, 0x21, loByte nn, hiByte nn]
  | .ldHLAtNN nn => [0x2A, loByte nn, hiByte nn]
  | .ldPairAtNN p nn => [0xED, opcodePair 0b01 p.code 0b1 0b011, loByte nn, hiByte nn]
  | .ldIXAtNN nn => [0xDD, 0x2A, loByte nn, hiByte nn]
  | .ldIYAtNN nn => [0xFD, 0x2A, loByte nn, hiByte nn]
  | .ldAtNNHL nn => [0x22, loByte nn, hiByte nn]
  | .ldAtNNPair nn p => [0xED, opcodePair 0b01 p.code 0b0 0b011, loByte nn, hiByte nn]
  | .ldAtNNIX nn => [0xDD, 0x22, loByte nn, hiByte nn]
  | .ldAtNNIY nn => [0xFD, 0x22, loByte nn, hiByte nn]
  | .ldSPHL => [0xF9]
  | .ldSPIX => [0xDD, 0xF9]
  | .ldSPIY => [0xFD, 0xF9]
  | .pushPair q => [opcodePair 0b11 q.code 0b0 0b101]
  | .pushIX => [0xDD, 0xE5]
  | .pushIY => [0xFD, 0xE5]
  | .popPair q => [opcodePair 0b11 q.code 0b0 0b001]
  | .popIX => [0xDD, 0xE1]
  | .popIY => [0xFD, 0xE1]
  -- Exchange, block transfer, block search (42_exchange_block.md)
  | .exDEHL => [0xEB]
  | .exAFAF => [0x08]
  | .exx => [0xD9]
  | .exAtSPHL => [0xE3]
  | .exAtSPIX => [0xDD, 0xE3]
  | .exAtSPIY => [0xFD, 0xE3]
  | .ldi => [0xED, 0xA0]
  | .ldir => [0xED, 0xB0]
  | .ldd => [0xED, 0xA8]
  | .lddr => [0xED, 0xB8]
  | .cpi => [0xED, 0xA1]
  | .cpir => [0xED, 0xB1]
  | .cpd => [0xED, 0xA9]
  | .cpdr => [0xED, 0xB9]
  -- 8-bit arithmetic and logic (43_alu8.md)
  | .addReg r => [opcode 0b10 0b000 r.code]
  | .addImm n => [0xC6, n]
  | .addAtHL => [0x86]
  | .addAtIX d => [0xDD, 0x86, d]
  | .addAtIY d => [0xFD, 0x86, d]
  | .adcReg r => [opcode 0b10 0b001 r.code]
  | .adcImm n => [0xCE, n]
  | .adcAtHL => [0x8E]
  | .adcAtIX d => [0xDD, 0x8E, d]
  | .adcAtIY d => [0xFD, 0x8E, d]
  | .subReg r => [opcode 0b10 0b010 r.code]
  | .subImm n => [0xD6, n]
  | .subAtHL => [0x96]
  | .subAtIX d => [0xDD, 0x96, d]
  | .subAtIY d => [0xFD, 0x96, d]
  | .sbcReg r => [opcode 0b10 0b011 r.code]
  | .sbcImm n => [0xDE, n]
  | .sbcAtHL => [0x9E]
  | .sbcAtIX d => [0xDD, 0x9E, d]
  | .sbcAtIY d => [0xFD, 0x9E, d]
  | .andReg r => [opcode 0b10 0b100 r.code]
  | .andImm n => [0xE6, n]
  | .andAtHL => [0xA6]
  | .andAtIX d => [0xDD, 0xA6, d]
  | .andAtIY d => [0xFD, 0xA6, d]
  | .orReg r => [opcode 0b10 0b110 r.code]
  | .orImm n => [0xF6, n]
  | .orAtHL => [0xB6]
  | .orAtIX d => [0xDD, 0xB6, d]
  | .orAtIY d => [0xFD, 0xB6, d]
  | .xorReg r => [opcode 0b10 0b101 r.code]
  | .xorImm n => [0xEE, n]
  | .xorAtHL => [0xAE]
  | .xorAtIX d => [0xDD, 0xAE, d]
  | .xorAtIY d => [0xFD, 0xAE, d]
  | .cpReg r => [opcode 0b10 0b111 r.code]
  | .cpImm n => [0xFE, n]
  | .cpAtHL => [0xBE]
  | .cpAtIX d => [0xDD, 0xBE, d]
  | .cpAtIY d => [0xFD, 0xBE, d]
  | .incReg r => [opcode 0b00 r.code 0b100]
  | .incAtHL => [0x34]
  | .incAtIX d => [0xDD, 0x34, d]
  | .incAtIY d => [0xFD, 0x34, d]
  | .decReg r => [opcode 0b00 r.code 0b101]
  | .decAtHL => [0x35]
  | .decAtIX d => [0xDD, 0x35, d]
  | .decAtIY d => [0xFD, 0x35, d]
  -- General arithmetic and CPU control (44_general_cpu_control.md)
  | .daa => [0x27]
  | .cpl => [0x2F]
  | .neg => [0xED, 0x44]
  | .ccf => [0x3F]
  | .scf => [0x37]
  | .nop => [0x00]
  | .halt => [0x76]
  | .di => [0xF3]
  | .ei => [0xFB]
  | .im0 => [0xED, 0x46]
  | .im1 => [0xED, 0x56]
  | .im2 => [0xED, 0x5E]
  -- 16-bit arithmetic (45_arith16.md)
  | .addHLPair p => [opcodePair 0b00 p.code 0b1 0b001]
  | .adcHLPair p => [0xED, opcodePair 0b01 p.code 0b1 0b010]
  | .sbcHLPair p => [0xED, opcodePair 0b01 p.code 0b0 0b010]
  | .addIXPair p => [0xDD, opcodePair 0b00 p.code 0b1 0b001]
  | .addIYPair p => [0xFD, opcodePair 0b00 p.code 0b1 0b001]
  | .incPair p => [opcodePair 0b00 p.code 0b0 0b011]
  | .incIX => [0xDD, 0x23]
  | .incIY => [0xFD, 0x23]
  | .decPair p => [opcodePair 0b00 p.code 0b1 0b011]
  | .decIX => [0xDD, 0x2B]
  | .decIY => [0xFD, 0x2B]
  -- Rotate and shift (46_rotate_shift.md)
  | .rlca => [0x07]
  | .rla => [0x17]
  | .rrca => [0x0F]
  | .rra => [0x1F]
  | .rlcReg r => [0xCB, opcode 0b00 0b000 r.code]
  | .rlcAtHL => [0xCB, 0x06]
  | .rlcAtIX d => [0xDD, 0xCB, d, 0x06]
  | .rlcAtIY d => [0xFD, 0xCB, d, 0x06]
  | .rlReg r => [0xCB, opcode 0b00 0b010 r.code]
  | .rlAtHL => [0xCB, 0x16]
  | .rlAtIX d => [0xDD, 0xCB, d, 0x16]
  | .rlAtIY d => [0xFD, 0xCB, d, 0x16]
  | .rrcReg r => [0xCB, opcode 0b00 0b001 r.code]
  | .rrcAtHL => [0xCB, 0x0E]
  | .rrcAtIX d => [0xDD, 0xCB, d, 0x0E]
  | .rrcAtIY d => [0xFD, 0xCB, d, 0x0E]
  | .rrReg r => [0xCB, opcode 0b00 0b011 r.code]
  | .rrAtHL => [0xCB, 0x1E]
  | .rrAtIX d => [0xDD, 0xCB, d, 0x1E]
  | .rrAtIY d => [0xFD, 0xCB, d, 0x1E]
  | .slaReg r => [0xCB, opcode 0b00 0b100 r.code]
  | .slaAtHL => [0xCB, 0x26]
  | .slaAtIX d => [0xDD, 0xCB, d, 0x26]
  | .slaAtIY d => [0xFD, 0xCB, d, 0x26]
  | .sraReg r => [0xCB, opcode 0b00 0b101 r.code]
  | .sraAtHL => [0xCB, 0x2E]
  | .sraAtIX d => [0xDD, 0xCB, d, 0x2E]
  | .sraAtIY d => [0xFD, 0xCB, d, 0x2E]
  | .srlReg r => [0xCB, opcode 0b00 0b111 r.code]
  | .srlAtHL => [0xCB, 0x3E]
  | .srlAtIX d => [0xDD, 0xCB, d, 0x3E]
  | .srlAtIY d => [0xFD, 0xCB, d, 0x3E]
  | .rld => [0xED, 0x6F]
  | .rrd => [0xED, 0x67]
  -- Bit set, reset and test (47_bit.md)
  | .bitReg b r => [0xCB, opcode 0b01 (bitCode b) r.code]
  | .bitAtHL b => [0xCB, opcode 0b01 (bitCode b) codeAtHL]
  | .bitAtIX b d => [0xDD, 0xCB, d, opcode 0b01 (bitCode b) codeAtHL]
  | .bitAtIY b d => [0xFD, 0xCB, d, opcode 0b01 (bitCode b) codeAtHL]
  | .setReg b r => [0xCB, opcode 0b11 (bitCode b) r.code]
  | .setAtHL b => [0xCB, opcode 0b11 (bitCode b) codeAtHL]
  | .setAtIX b d => [0xDD, 0xCB, d, opcode 0b11 (bitCode b) codeAtHL]
  | .setAtIY b d => [0xFD, 0xCB, d, opcode 0b11 (bitCode b) codeAtHL]
  | .resReg b r => [0xCB, opcode 0b10 (bitCode b) r.code]
  | .resAtHL b => [0xCB, opcode 0b10 (bitCode b) codeAtHL]
  | .resAtIX b d => [0xDD, 0xCB, d, opcode 0b10 (bitCode b) codeAtHL]
  | .resAtIY b d => [0xFD, 0xCB, d, opcode 0b10 (bitCode b) codeAtHL]
  -- Jumps (48_jump_call_return.md)
  | .jpImm nn => [0xC3, loByte nn, hiByte nn]
  | .jpCond cc nn => [opcode 0b11 cc.code 0b010, loByte nn, hiByte nn]
  | .jr e => [0x18, e]
  | .jrC e => [0x38, e]
  | .jrNC e => [0x30, e]
  | .jrZ e => [0x28, e]
  | .jrNZ e => [0x20, e]
  | .jpHL => [0xE9]
  | .jpIX => [0xDD, 0xE9]
  | .jpIY => [0xFD, 0xE9]
  | .djnz e => [0x10, e]
  -- Call and return (48_jump_call_return.md)
  | .callImm nn => [0xCD, loByte nn, hiByte nn]
  | .callCond cc nn => [opcode 0b11 cc.code 0b100, loByte nn, hiByte nn]
  | .ret => [0xC9]
  | .retCond cc => [opcode 0b11 cc.code 0b000]
  | .reti => [0xED, 0x4D]
  | .retn => [0xED, 0x45]
  | .rst p => [0xC7 ||| p]
  -- Input and output (49_io.md)
  | .inAImm n => [0xDB, n]
  | .inRegC r => [0xED, opcode 0b01 r.code 0b000]
  | .ini => [0xED, 0xA2]
  | .inir => [0xED, 0xB2]
  | .ind => [0xED, 0xAA]
  | .indr => [0xED, 0xBA]
  | .outImmA n => [0xD3, n]
  | .outCReg r => [0xED, opcode 0b01 r.code 0b001]
  | .outi => [0xED, 0xA3]
  | .otir => [0xED, 0xB3]
  | .outd => [0xED, 0xAB]
  | .otdr => [0xED, 0xBB]

/-! ## The opcode table's numbering of an instruction's bits -/

/-- The first four bytes at the instruction's address for an instruction whose `nbits` bits are `w`, numbered as
spec/opcode_table.json numbers them: one number with the FIRST byte most significant (R91); zero bytes
follow. DEDUCED, log entry 13. -/
def tableBytes (nbits w : Nat) : List Byte :=
  (List.range 4).map fun k =>
    if 8 * (k + 1) ≤ nbits then BitVec.ofNat 8 (w / 2 ^ (nbits - 8 * (k + 1))) else 0

/-- The instruction the decoder reads from the bytes of an opcode-table word. -/
def decodeTableWord (nbits w : Nat) : Option Instr := (decode (tableBytes nbits w)).instr?

end Sys2Proof
end

