-- ==== Sys2Proof/Machine/State.lean ====
section
/-!
DEFINITION. The state of the machine (10_state.md, "The one agent"), with the platform's parameters and the
environment's inputs held as plain data (R441 of 60_exceptions.md; log entries 3, 4, 6, 8), the reasons a
step can stop, and the state right after reset (R41 of 10_state.md).
-/

namespace Sys2Proof.Machine

/-- No fault exists on this hardware: no instruction can raise a trap or fault (R420 of 60_exceptions.md), and
an access to any address gives a value (R60 of 20_memory.md). So the type has no constructor; safe, log
entry 17. -/
inductive Fault where
deriving DecidableEq, Repr

/-- Why a step has no meaning. -/
inductive Refusal where
  /-- Raised by `exec`'s arm of an instruction without a meaning. No arm raises it. Safe. -/
  | notModelled (mnemonic : String)
  /-- Raised by `step` where the bytes at PC are a reserved encoding (R109 of 30_encoding.md). Safe, log entry 11. -/
  | reservedEncoding (why : Reject)
  /-- Raised by `step` where a mode-0 interrupt supplies a byte that is not `RST p` (R426 of 60_exceptions.md).
  Safe, log entry 12. -/
  | mode0NotRst (busByte : Byte)
deriving DecidableEq, Repr

/-- The interrupt mode IM (R37 of 10_state.md). -/
inductive IntMode where
  | im0 | im1 | im2
deriving DecidableEq, Repr

/-- What an address is on the platform (parameter `MemMap`, R60 of 20_memory.md). -/
inductive MemKind where
  | ram | rom | absent | device
deriving DecidableEq, Repr

/-- A range of addresses of one kind: `size` addresses from `base` on. DESIGN CHOICE, log entry 6. -/
structure Region where
  base : Nat
  size : Nat
  kind : MemKind
deriving DecidableEq, Repr

/-- The environment's inputs at one step boundary (R441 of 60_exceptions.md). -/
structure Inputs where
  /-- The reset line is asserted. -/
  reset : Bool
  /-- A falling edge occurred on NMI since the last boundary. -/
  nmiEdge : Bool
  /-- The INT line is active now. -/
  intLine : Bool
  /-- The byte on the data bus during an INT acknowledge. -/
  busByte : Byte
  /-- What a port read of this step returns; `none` is the default `any8()`. -/
  portByte : Option Byte
deriving DecidableEq, Repr

/-- The default inputs: nothing asserted, the bus reads FFh, ports answer any value (R441 of 60_exceptions.md). -/
def Inputs.quiet : Inputs :=
  { reset := false, nmiEdge := false, intLine := false, busByte := 0xFF, portByte := none }

/-- The contents of memory: (address, byte) pairs. Its canonical form is `Memory.wf` of Machine/Ops.lean. -/
abbrev Memory := List Host.Cell

/-- The complete state (10_state.md, "The one agent"), and after it the model's own fields. -/
structure State where
  -- the main registers (R20, R26)
  a : Byte
  f : Byte
  b : Byte
  c : Byte
  d : Byte
  e : Byte
  h : Byte
  l : Byte
  -- the alternate registers (R22)
  a' : Byte
  f' : Byte
  b' : Byte
  c' : Byte
  d' : Byte
  e' : Byte
  h' : Byte
  l' : Byte
  -- index registers, stack pointer, program counter (R23, R24, R25)
  ix : Word
  iy : Word
  sp : Word
  pc : Word
  -- interrupt page and refresh counter (R34, R35)
  i : Byte
  r : Byte
  -- interrupt flip-flops and mode (R36, R37)
  iff1 : Bool
  iff2 : Bool
  im : IntMode
  -- hidden state (R38, R39)
  halted : Bool
  eiShadow : Bool
  nmiPending : Bool
  -- memory (R40) and the platform's map of it (R60)
  mem : Memory
  memMap : List Region
  -- the environment: the inputs of this step's boundary and of the coming ones (R441)
  now : Inputs
  inputs : List Inputs
  -- the port and device accesses so far, oldest first (R390)
  trace : List BusEvent
  -- how many free values have been drawn (R12)
  draws : Nat
deriving DecidableEq, Repr

/-- The machine right after reset (R41 of 10_state.md, R471 of 70_reset_and_hazards.md). PC, I, R, IFF1, IFF2,
IM, halted, ei_shadow and nmi_pending are the spec's. The other registers are unspecified: A, F and SP hold
the power-on values R41 reports (FFh, FFh, FFFFh) and the rest 0, DESIGN CHOICE, unsafe, log entry 1. The
memory map and the inputs are the spec's defaults (D7, D9). -/
def State.reset : State :=
  { a := 0xFF, f := 0xFF, b := 0, c := 0, d := 0, e := 0, h := 0, l := 0
    a' := 0, f' := 0, b' := 0, c' := 0, d' := 0, e' := 0, h' := 0, l' := 0
    ix := 0, iy := 0, sp := 0xFFFF, pc := 0x0000, i := 0x00, r := 0x00
    iff1 := false, iff2 := false, im := .im0
    halted := false, eiShadow := false, nmiPending := false
    mem := [], memMap := [], now := Inputs.quiet, inputs := [], trace := [], draws := 0 }

end Sys2Proof.Machine
end

