-- ==== Sys2Proof/Machine/Ops.lean ====
section
/-!
DEFINITION. The named operations over memory, ports, the program counter and the refresh counter, and the
entry to and return from interrupts and reset. The meanings of the instructions are built from these.
-/

namespace Sys2Proof.Machine

/-- What a meaning and a step answer. -/
abbrev Result := Host.Outcome State Fault Refusal

/-! ## The contents of memory (R60 of 20_memory.md) -/

/-- What an address that is not listed reads as: the spec fixes no initial contents (D7). DESIGN CHOICE,
unsafe, log entry 2. -/
def Memory.unlisted : Byte := 0

/-- `Mem[a]` (R60). -/
def Memory.read (a : Nat) : Memory → Byte
  | [] => Memory.unlisted
  | (k, v) :: m => if k = a then v else Memory.read a m

/-- Memory without any entry at an address. -/
def Memory.erase (m : Memory) (a : Nat) : Memory := m.filter fun cell => cell.1 != a

/-- Memory with an entry put before the first entry of a higher address. -/
def Memory.insert (a : Nat) (v : Byte) : Memory → Memory
  | [] => [(a, v)]
  | (k, w) :: m => if a < k then (a, v) :: (k, w) :: m else (k, w) :: Memory.insert a v m

/-- `Mem` with `Mem[a]` replaced by `v` (R60), in canonical form again. -/
def Memory.write (m : Memory) (a : Nat) (v : Byte) : Memory :=
  if v = Memory.unlisted then m.erase a else Memory.insert a v (m.erase a)

/-- The canonical form from an address on: strictly rising addresses of at least `lo` and below 65536, no
entry equal to what an unlisted address reads as. -/
def Memory.wfFrom (lo : Nat) : Memory → Bool
  | [] => true
  | (k, v) :: m => lo ≤ k && k < 65536 && v != Memory.unlisted && Memory.wfFrom (k + 1) m

/-- The canonical form of memory. -/
def Memory.wf (m : Memory) : Bool := Memory.wfFrom 0 m

/-- What an address is: the kind of the first region that holds it, and RAM where none does
(`MemMap`, R60 of 20_memory.md; log entry 6). -/
def memKind (a : Word) : List Region → MemKind
  | [] => .ram
  | g :: rest => if g.base ≤ a.toNat ∧ a.toNat < g.base + g.size then g.kind else memKind a rest

/-- What an address is on the platform of a state. -/
def State.kindAt (s : State) (a : Word) : MemKind := memKind a s.memMap

/-! ## Free values (R12 of 00_scope.md; log entry 4) -/

/-- `any1()`. -/
def State.anyBit (s : State) : Bool × State :=
  (Config.freeBit s.draws, { s with draws := s.draws + 1 })

/-- `any8()`. -/
def State.anyByte (s : State) : Byte × State :=
  (Config.freeByte s.draws, { s with draws := s.draws + 1 })

/-! ## Accesses to memory and ports -/

/-- The state after an access that the environment sees. -/
def State.record (ev : BusEvent) (s : State) : State := { s with trace := s.trace ++ [ev] }

/-- `MemRead(a, 1)`: the byte, and the state after the access (R60, R76 of 20_memory.md). -/
def State.read8 (a : Word) (s : State) : Byte × State :=
  match s.kindAt a with
  | .ram | .rom => (Memory.read a.toNat s.mem, s)
  | .absent => s.anyByte
  | .device => (Config.deviceRead a s.trace, s.record (.memRead a (Config.deviceRead a s.trace)))

/-- `MemWrite(a, 1, v)` (R60, R76 of 20_memory.md). -/
def State.write8 (a : Word) (v : Byte) (s : State) : State :=
  match s.kindAt a with
  | .ram => { s with mem := s.mem.write a.toNat v }
  | .rom | .absent => s
  | .device => s.record (.memWrite a v)

/-- `MemRead(a, 2)`: low byte at `a` first, then high byte at `a + 1` (R61, R65 of 20_memory.md). -/
def State.read16 (a : Word) (s : State) : Word × State :=
  let lo := s.read8 a
  let hi := lo.2.read8 (a + 1)
  (joinBytes hi.1 lo.1, hi.2)

/-- `MemWrite(a, 2, v)`: low byte at `a` first, then high byte at `a + 1` (R61, R65 of 20_memory.md). -/
def State.write16 (a v : Word) (s : State) : State :=
  (s.write8 a (loByte v)).write8 (a + 1) (hiByte v)

/-- What a port answers in this step: the environment's answer, or any value
(R390 of 49_io.md, R441 of 60_exceptions.md; log entry 5). -/
def State.portValue (port : Word) (s : State) : Byte :=
  s.now.portByte.getD (Config.ioRead port s.trace)

/-- `IoRead(port)` (R390 of 49_io.md). -/
def State.portIn (port : Word) (s : State) : Byte × State :=
  (s.portValue port, s.record (.portRead port (s.portValue port)))

/-- `IoWrite(port, v)` (R390 of 49_io.md). -/
def State.portOut (port : Word) (v : Byte) (s : State) : State := s.record (.portWrite port v)

/-! ## Program counter, stack, refresh counter -/

/-- `pc_next` of an instruction of `n` bytes (R25 of 10_state.md). -/
def State.pcNext (n : Word) (s : State) : Word := s.pc + n

/-- `PC <- target`. -/
def State.jumpTo (target : Word) (s : State) : State := { s with pc := target }

/-- `PC <- pc_next` after an instruction of `n` bytes (R25 of 10_state.md). -/
def State.advance (n : Word) (s : State) : State := s.jumpTo (s.pcNext n)

/-- A push: the high byte at SP-1, then the low byte at SP-2, then SP <- SP-2
(R63 of 20_memory.md, R174 of 41_load16.md). -/
def State.push16 (v : Word) (s : State) : State :=
  let t := (s.write8 (s.sp - 1) (hiByte v)).write8 (s.sp - 2) (loByte v)
  { t with sp := s.sp - 2 }

/-- A pop: the low byte at SP, then the high byte at SP+1, then SP <- SP+2
(R63 of 20_memory.md, R177 of 41_load16.md). -/
def State.pop16 (s : State) : Word × State :=
  let p := s.read16 s.sp
  (p.1, { p.2 with sp := s.sp + 2 })

/-- R after `n` opcode fetches: the low seven bits count, bit 7 stays (R35 of 10_state.md). -/
def refreshAfter (n : Nat) (r : Byte) : Byte :=
  BitVec.ofNat 8 (r.toNat / 128 * 128 + (r.toNat + n) % 128)

/-- The count of `n` opcode fetches in R (R35 of 10_state.md). -/
def State.countFetches (n : Nat) (s : State) : State := { s with r := refreshAfter n s.r }

/-- A call: push a return address and go to a target (R362, R368 of 48_jump_call_return.md). -/
def State.callTo (target returnTo : Word) (s : State) : State := (s.push16 returnTo).jumpTo target

/-- A return: pop PC (R364 of 48_jump_call_return.md). -/
def State.returnPop (s : State) : State := s.pop16.2.jumpTo s.pop16.1

/-! ## Interrupts and reset: taking one, and returning (60_exceptions.md) -/

/-- What every interrupt acceptance does last: push PC and go to the handler (R424 to R428). -/
def State.enterHandler (target : Word) (s : State) : State := s.callTo target s.pc

/-- Acceptance of a non-maskable interrupt (R424). -/
def State.acceptNmi (s : State) : State :=
  State.enterHandler 0x0066
    { s.countFetches 1 with nmiPending := false, halted := false, eiShadow := false, iff1 := false }

/-- The common part of the acceptance of a maskable interrupt (R425). -/
def State.acknowledgeInt (s : State) : State :=
  { s.countFetches 1 with halted := false, iff1 := false, iff2 := false }

/-- Whether a byte is one of the `RST p` opcodes, `11ttt111` (R426). -/
def isRstByte (v : Byte) : Bool := v &&& 0xC7 == 0xC7

/-- The restart address of an `RST p` opcode, `8 * ttt` (R426). -/
def rstTarget (v : Byte) : Word := (v &&& 0x38).setWidth 16

/-- Entry in mode 2: push PC, then load PC from the table entry at `I ++ BusByte` (R428). -/
def State.enterMode2 (s : State) : State :=
  let t := s.push16 s.pc
  let p := t.read16 (joinBytes t.i t.now.busByte)
  p.2.jumpTo p.1

/-- Acceptance of a maskable interrupt (R425 to R428). In mode 0 a byte that is not `RST p` is refused (R426,
D20; log entry 12). -/
def State.acceptInt (s : State) : Result :=
  let t := s.acknowledgeInt
  match t.im with
  | .im0 =>
    if isRstByte t.now.busByte then .next (t.enterHandler (rstTarget t.now.busByte))
    else .refused (.mode0NotRst t.now.busByte)
  | .im1 => .next (t.enterHandler 0x0038)
  | .im2 => .next t.enterMode2

/-- Return from a maskable interrupt: pop PC, no flip-flop changes (R366, R430). -/
def State.returnFromInt (s : State) : State := s.returnPop

/-- Return from a non-maskable interrupt: pop PC, then IFF1 <- IFF2 (R367, R430). -/
def State.returnFromNmi (s : State) : State := { s.returnPop with iff1 := s.returnPop.iff2 }

/-- The effect of the reset line (R470, R471 of 70_reset_and_hazards.md, R41 of 10_state.md). Every register the
table does not fix becomes a free value, DESIGN CHOICE, safe, log entry 9; memory, the environment and the
trace are not touched. -/
def State.resetCpu (s : State) : State :=
  let v := fun k => Config.freeByte (s.draws + k)
  { s with
    a := v 0, f := v 1, b := v 2, c := v 3, d := v 4, e := v 5, h := v 6, l := v 7
    a' := v 8, f' := v 9, b' := v 10, c' := v 11, d' := v 12, e' := v 13, h' := v 14, l' := v 15
    ix := joinBytes (v 16) (v 17), iy := joinBytes (v 18) (v 19), sp := joinBytes (v 20) (v 21)
    pc := 0x0000, i := 0x00, r := 0x00, iff1 := false, iff2 := false, im := .im0
    halted := false, eiShadow := false, nmiPending := false
    draws := s.draws + 22 }

/-! ## The step boundary (R422 of 60_exceptions.md) -/

/-- The environment's inputs at the next boundary: the next of the list, the default when it is empty (R441). -/
def State.nextInputs (s : State) : Inputs := s.inputs.head?.getD Inputs.quiet

/-- Sampling the inputs at a boundary; an NMI edge is latched in nmi_pending (R421, R422, R441). -/
def State.sample (s : State) : State :=
  { s with
    now := s.nextInputs
    inputs := s.inputs.tail
    nmiPending := s.nmiPending || s.nextInputs.nmiEdge }

/-- What a step is (R422). -/
inductive StepKind where
  | reset | nmi | int | haltedTick | instruction
deriving DecidableEq, Repr

/-- What the step after a sampled boundary is, in the order of R422 and R423. -/
def State.stepKind (s : State) : StepKind :=
  if s.now.reset then .reset
  else if s.nmiPending then .nmi
  else if s.now.intLine && s.iff1 && !s.eiShadow then .int
  else if s.halted then .haltedTick
  else .instruction

/-- Whether a maskable interrupt is accepted at the boundary that follows (R422), seen from inside a step. -/
def State.intFollows (s : State) : Bool := s.sample.stepKind == .int

end Sys2Proof.Machine
end

