-- ==== Sys2Proof/Machine/Flags.lean ====
section
/-!
DEFINITION. The flag register and every flag computation: the positions of the flags in F (R26 of 10_state.md),
the arithmetic helpers (R7 of 00_scope.md), decimal adjustment (R260 of 44_general_cpu_control.md), and the
rotates and shifts (R316 of 46_rotate_shift.md).
-/

namespace Sys2Proof.Machine

/-! ## F (R26, R33 of 10_state.md) -/

/-- The six flags of F. -/
structure FlagBits where
  s : Bool
  z : Bool
  h : Bool
  pv : Bool
  n : Bool
  c : Bool
deriving DecidableEq, Repr

/-- The six flags of a value of F (R26). -/
def flagBits (f : Byte) : FlagBits :=
  { s := f.getLsbD 7, z := f.getLsbD 6, h := f.getLsbD 4, pv := f.getLsbD 2, n := f.getLsbD 1, c := f.getLsbD 0 }

/-- The value of F with these flags and these bits 5 and 3 (R26). -/
def packFlags (x : FlagBits) (bit5 bit3 : Bool) : Byte :=
  BitVec.ofBool x.s ++ BitVec.ofBool x.z ++ BitVec.ofBool bit5 ++ BitVec.ofBool x.h ++
    BitVec.ofBool bit3 ++ BitVec.ofBool x.pv ++ BitVec.ofBool x.n ++ BitVec.ofBool x.c

/-- The flags of a state. -/
def State.flags (s : State) : FlagBits := flagBits s.f

/-- A flag-writing instruction's write of F: the six flags as given, bits 5 and 3 each `any1()` (R33). -/
def State.writeFlags (x : FlagBits) (s : State) : State :=
  let b5 := s.anyBit
  let b3 := b5.2.anyBit
  { b3.2 with f := packFlags x b5.1 b3.1 }

/-! ## Arithmetic (R7 of 00_scope.md) -/

/-- The result of an addition or subtraction with its carry, half carry and overflow. -/
structure Arith (w : Nat) where
  res : BitVec w
  cy : Bool
  hc : Bool
  ov : Bool
deriving DecidableEq, Repr

/-- An addition at width `w` with the half carry out of bit `k - 1`. -/
def addWith (k : Nat) {w : Nat} (a b : BitVec w) (cin : Bool) : Arith w :=
  let res := BitVec.ofNat w (a.toNat + b.toNat + cin.toNat)
  { res := res
    cy := decide (2 ^ w ≤ a.toNat + b.toNat + cin.toNat)
    hc := decide (2 ^ k ≤ a.toNat % 2 ^ k + b.toNat % 2 ^ k + cin.toNat)
    ov := a.msb == b.msb && res.msb != a.msb }

/-- A subtraction at width `w` with the half borrow into bit `k - 1`. -/
def subWith (k : Nat) {w : Nat} (a b : BitVec w) (cin : Bool) : Arith w :=
  let res := BitVec.ofInt w ((a.toNat : Int) - b.toNat - cin.toNat)
  { res := res
    cy := decide (a.toNat < b.toNat + cin.toNat)
    hc := decide (a.toNat % 2 ^ k < b.toNat % 2 ^ k + cin.toNat)
    ov := a.msb != b.msb && res.msb != a.msb }

/-- `add8(a, b, cin)`. -/
def add8 (a b : Byte) (cin : Bool) : Arith 8 := addWith 4 a b cin

/-- `sub8(a, b, cin)`. -/
def sub8 (a b : Byte) (cin : Bool) : Arith 8 := subWith 4 a b cin

/-- `add16(a, b, cin)`. -/
def add16 (a b : Word) (cin : Bool) : Arith 16 := addWith 12 a b cin

/-- `sub16(a, b, cin)`. -/
def sub16 (a b : Word) (cin : Bool) : Arith 16 := subWith 12 a b cin

/-- The number of 1 bits among the low `n` bits of a number. -/
def countOnes : Nat → Nat → Nat
  | 0, _ => 0
  | n + 1, v => v % 2 + countOnes n (v / 2)

/-- `parity8(v)`: the number of 1 bits is even. -/
def parity8 (v : Byte) : Bool := countOnes 8 v.toNat % 2 == 0

/-- The flags of an 8-bit addition or subtraction: C, H, V from the arithmetic, Z and S from the result
(R238 of 43_alu8.md). -/
def arithFlags (x : Arith 8) (n : Bool) : FlagBits :=
  { s := x.res.msb, z := x.res == 0, h := x.hc, pv := x.ov, n := n, c := x.cy }

/-- The flags of INC and DEC: as `arithFlags`, C unchanged (R233, R237 of 43_alu8.md). -/
def incDecFlags (old : FlagBits) (x : Arith 8) (n : Bool) : FlagBits :=
  { arithFlags x n with c := old.c }

/-- The flags of AND (H = 1), OR and XOR (H = 0) (R229 to R231 of 43_alu8.md, C20 of 90_conflicts.md). -/
def logicFlags (res : Byte) (h : Bool) : FlagBits :=
  { s := res.msb, z := res == 0, h := h, pv := parity8 res, n := false, c := false }

/-- The flags S, Z and P/V from a byte with H = N = 0, C as given: the CB-page rotates and shifts (R316(c) of
46_rotate_shift.md), RLD and RRD (R314), `IN r,(C)` (R392 of 49_io.md). -/
def byteFlags (res : Byte) (c : Bool) : FlagBits :=
  { s := res.msb, z := res == 0, h := false, pv := parity8 res, n := false, c := c }

/-! ## Decimal adjustment (R260 of 44_general_cpu_control.md) -/

/-- The correction byte of DAA. -/
def daaCorrection (a : Byte) (x : FlagBits) : Byte :=
  (if x.h || 9 < a.toNat % 16 then 0x06 else 0x00) ||| (if x.c || 0x99 < a.toNat then 0x60 else 0x00)

/-- The result of DAA. -/
def daaResult (a : Byte) (x : FlagBits) : Byte :=
  if x.n then a - daaCorrection a x else a + daaCorrection a x

/-- The half carry that DAA writes (C22 of 90_conflicts.md). -/
def daaHalf (a : Byte) (x : FlagBits) : Bool :=
  if x.n then x.h && decide (a.toNat % 16 < 6) else decide (9 < a.toNat % 16)

/-- The flags of DAA. -/
def daaFlags (a : Byte) (x : FlagBits) : FlagBits :=
  { s := (daaResult a x).msb, z := daaResult a x == 0, h := daaHalf a x, pv := parity8 (daaResult a x)
    n := x.n, c := x.c || decide (0x99 < a.toNat) }

/-! ## Rotates and shifts (R316(b) of 46_rotate_shift.md): the result and the outgoing carry -/

/-- `(v << 1) mod 256` with a bit entering at bit 0. -/
def shiftLeftIn (v : Byte) (bit0 : Bool) : Byte := BitVec.ofNat 8 (v.toNat * 2 % 256 + bit0.toNat)

/-- `v >> 1` with a bit entering at bit 7. -/
def shiftRightIn (v : Byte) (bit7 : Bool) : Byte := BitVec.ofNat 8 (v.toNat / 2 + 128 * bit7.toNat)

/-- RLC: bit 7 goes to bit 0 and to C. -/
def rlcBits (v : Byte) : Byte × Bool := (shiftLeftIn v (v.getLsbD 7), v.getLsbD 7)

/-- RRC: bit 0 goes to bit 7 and to C. -/
def rrcBits (v : Byte) : Byte × Bool := (shiftRightIn v (v.getLsbD 0), v.getLsbD 0)

/-- RL: the old carry enters bit 0. -/
def rlBits (c : Bool) (v : Byte) : Byte × Bool := (shiftLeftIn v c, v.getLsbD 7)

/-- RR: the old carry enters bit 7. -/
def rrBits (c : Bool) (v : Byte) : Byte × Bool := (shiftRightIn v c, v.getLsbD 0)

/-- SLA: 0 enters bit 0. -/
def slaBits (v : Byte) : Byte × Bool := (shiftLeftIn v false, v.getLsbD 7)

/-- SRA: bit 7 is kept. -/
def sraBits (v : Byte) : Byte × Bool := (shiftRightIn v (v.getLsbD 7), v.getLsbD 0)

/-- SRL: 0 enters bit 7. -/
def srlBits (v : Byte) : Byte × Bool := (shiftRightIn v false, v.getLsbD 0)

/-! ## Bits (47_bit.md) -/

/-- `1 << b` as a byte. -/
def bitMask (b : Nat) : Byte := BitVec.ofNat 8 (2 ^ b)

/-- `v or (1 << b)` (R334). -/
def setBitOf (b : Nat) (v : Byte) : Byte := v ||| bitMask b

/-- `v and not (1 << b)` (R338). -/
def clearBitOf (b : Nat) (v : Byte) : Byte := v &&& ~~~(bitMask b)

end Sys2Proof.Machine
end

