-- ==== Sys2Proof/Machine/Operands.lean ====
section
/-!
DEFINITION. Every operand form: registers and pairs (R20 to R24 of 10_state.md, R92 to R95 of 30_encoding.md),
indexed addresses (R67 of 20_memory.md), conditions (R350 of 48_jump_call_return.md), and the shapes in which
an instruction reads, or reads and writes, one operand.
-/

namespace Sys2Proof.Machine

/-! ## Registers and pairs -/

/-- `reg8(code)` (R92). -/
def State.reg8 : Reg8 → State → Byte
  | .b, s => s.b
  | .c, s => s.c
  | .d, s => s.d
  | .e, s => s.e
  | .h, s => s.h
  | .l, s => s.l
  | .a, s => s.a

/-- `reg8(code) <- v` (R92). -/
def State.setReg8 (r : Reg8) (v : Byte) (s : State) : State :=
  match r with
  | .b => { s with b := v }
  | .c => { s with c := v }
  | .d => { s with d := v }
  | .e => { s with e := v }
  | .h => { s with h := v }
  | .l => { s with l := v }
  | .a => { s with a := v }

/-- `A <- v`. -/
def State.setA (v : Byte) (s : State) : State := { s with a := v }

/-- `B <- v`. -/
def State.setB (v : Byte) (s : State) : State := { s with b := v }

/-- `BC = B ++ C` (R21). -/
def State.bc (s : State) : Word := joinBytes s.b s.c

/-- `DE = D ++ E` (R21). -/
def State.de (s : State) : Word := joinBytes s.d s.e

/-- `HL = H ++ L` (R21). -/
def State.hl (s : State) : Word := joinBytes s.h s.l

/-- `AF = A ++ F` (R21). -/
def State.af (s : State) : Word := joinBytes s.a s.f

/-- `BC <- v`: both halves (R21). -/
def State.setBC (v : Word) (s : State) : State := { s with b := hiByte v, c := loByte v }

/-- `DE <- v`: both halves (R21). -/
def State.setDE (v : Word) (s : State) : State := { s with d := hiByte v, e := loByte v }

/-- `HL <- v`: both halves (R21). -/
def State.setHL (v : Word) (s : State) : State := { s with h := hiByte v, l := loByte v }

/-- `AF <- v`: both halves, all eight bits of F (R21, R33). -/
def State.setAF (v : Word) (s : State) : State := { s with a := hiByte v, f := loByte v }

/-- `IX <- v`. -/
def State.setIX (v : Word) (s : State) : State := { s with ix := v }

/-- `IY <- v`. -/
def State.setIY (v : Word) (s : State) : State := { s with iy := v }

/-- `SP <- v`. -/
def State.setSP (v : Word) (s : State) : State := { s with sp := v }

/-- The value of a pair dd (R93). -/
def State.pairDD : PairDD → State → Word
  | .bc, s => s.bc
  | .de, s => s.de
  | .hl, s => s.hl
  | .sp, s => s.sp

/-- `dd <- v` (R93). -/
def State.setPairDD (p : PairDD) (v : Word) (s : State) : State :=
  match p with
  | .bc => s.setBC v
  | .de => s.setDE v
  | .hl => s.setHL v
  | .sp => s.setSP v

/-- The value of a pair qq (R94). -/
def State.pairQQ : PairQQ → State → Word
  | .bc, s => s.bc
  | .de, s => s.de
  | .hl, s => s.hl
  | .af, s => s.af

/-- `qq <- v` (R94). -/
def State.setPairQQ (q : PairQQ) (v : Word) (s : State) : State :=
  match q with
  | .bc => s.setBC v
  | .de => s.setDE v
  | .hl => s.setHL v
  | .af => s.setAF v

/-- The value of a pair pp (R95). -/
def State.pairPP : PairPP → State → Word
  | .bc, s => s.bc
  | .de, s => s.de
  | .ix, s => s.ix
  | .sp, s => s.sp

/-- The value of a pair rr (R95). -/
def State.pairRR : PairRR → State → Word
  | .bc, s => s.bc
  | .de, s => s.de
  | .iy, s => s.iy
  | .sp, s => s.sp

/-! ## Addresses and conditions -/

/-- `sext_16(v)` (R6 of 00_scope.md). -/
def sext16 (v : Byte) : Word := v.signExtend 16

/-- The address of `(IX+d)` (R67 of 20_memory.md, R101 of 30_encoding.md). -/
def State.addrIX (d : Byte) (s : State) : Word := s.ix + sext16 d

/-- The address of `(IY+d)` (R67 of 20_memory.md, R101 of 30_encoding.md). -/
def State.addrIY (d : Byte) (s : State) : Word := s.iy + sext16 d

/-- `cond(ccc)` (R350 of 48_jump_call_return.md). -/
def State.cond : Cond → State → Bool
  | .nz, s => !s.flags.z
  | .z, s => s.flags.z
  | .nc, s => !s.flags.c
  | .c, s => s.flags.c
  | .po, s => !s.flags.pv
  | .pe, s => s.flags.pv
  | .p, s => !s.flags.s
  | .m, s => s.flags.s

/-! ## Operand shapes -/

/-- An operation that takes a byte read from memory (R238 of 43_alu8.md). -/
def State.useAt (addr : Word) (op : Byte → State → State) (s : State) : State :=
  op (s.read8 addr).1 (s.read8 addr).2

/-- An operation on a register, its result written back. -/
def State.updateReg (r : Reg8) (op : Byte → State → Byte × State) (s : State) : State :=
  (op (s.reg8 r) s).2.setReg8 r (op (s.reg8 r) s).1

/-- An operation on a byte of memory: one read, then one write of the same address (R66, R67 of 20_memory.md). -/
def State.updateAt (addr : Word) (op : Byte → State → Byte × State) (s : State) : State :=
  let v := s.read8 addr
  let res := op v.1 v.2
  res.2.write8 addr res.1

end Sys2Proof.Machine
end

