-- ==== Sys2Proof/Machine/Alu8.lean ====
section
/-!
DEFINITION. The 8-bit arithmetic and logic group (43_alu8.md).
-/

namespace Sys2Proof.Machine

/-! ## Shared operations: A and an operand byte (R238) -/

/-- `A <- A + v + cin` and its flags (R221, R226). -/
def State.addToA (cin : Bool) (v : Byte) (s : State) : State :=
  (s.setA (add8 s.a v cin).res).writeFlags (arithFlags (add8 s.a v cin) false)

/-- `A <- A - v - cin` and its flags (R227, R228). -/
def State.subFromA (cin : Bool) (v : Byte) (s : State) : State :=
  (s.setA (sub8 s.a v cin).res).writeFlags (arithFlags (sub8 s.a v cin) true)

/-- The flags of `A - v`; A is not written (R232). -/
def State.compareA (v : Byte) (s : State) : State := s.writeFlags (arithFlags (sub8 s.a v false) true)

/-- `A <- res` with the flags of a logic operation (R229 to R231). -/
def State.logicToA (res : Byte) (h : Bool) (s : State) : State :=
  (s.setA res).writeFlags (logicFlags res h)

/-- `ADD A,v`. -/
def State.opAdd (v : Byte) (s : State) : State := s.addToA false v

/-- `ADC A,v`. -/
def State.opAdc (v : Byte) (s : State) : State := s.addToA s.flags.c v

/-- `SUB v`. -/
def State.opSub (v : Byte) (s : State) : State := s.subFromA false v

/-- `SBC A,v`. -/
def State.opSbc (v : Byte) (s : State) : State := s.subFromA s.flags.c v

/-- `AND v`: H is written 1. -/
def State.opAnd (v : Byte) (s : State) : State := s.logicToA (s.a &&& v) true

/-- `XOR v`: H is written 0 (C20 of 90_conflicts.md). -/
def State.opXor (v : Byte) (s : State) : State := s.logicToA (s.a ^^^ v) false

/-- `OR v`: H is written 0 (C20 of 90_conflicts.md). -/
def State.opOr (v : Byte) (s : State) : State := s.logicToA (s.a ||| v) false

/-- `CP v`. -/
def State.opCp (v : Byte) (s : State) : State := s.compareA v

/-- INC of a byte: the result, and the flags written (R233). -/
def incByte (v : Byte) (s : State) : Byte × State :=
  ((add8 v 1 false).res, s.writeFlags (incDecFlags s.flags (add8 v 1 false) false))

/-- DEC of a byte: the result, and the flags written (R237, C21 of 90_conflicts.md). -/
def decByte (v : Byte) (s : State) : Byte × State :=
  ((sub8 v 1 false).res, s.writeFlags (incDecFlags s.flags (sub8 v 1 false) true))

/-! ## Meanings -/

/-- `ADD A,r` (R221). -/
def execAddReg (r : Reg8) (s : State) : Result :=
  .next ((s.opAdd (s.reg8 r)).advance 1)

/-- `ADD A,n` (R222). -/
def execAddImm (n : Byte) (s : State) : Result :=
  .next ((s.opAdd n).advance 2)

/-- `ADD A,(HL)` (R223). -/
def execAddAtHL (s : State) : Result :=
  .next ((s.useAt s.hl State.opAdd).advance 1)

/-- `ADD A,(IX+d)` (R224). -/
def execAddAtIX (d : Byte) (s : State) : Result :=
  .next ((s.useAt (s.addrIX d) State.opAdd).advance 3)

/-- `ADD A,(IY+d)` (R225). -/
def execAddAtIY (d : Byte) (s : State) : Result :=
  .next ((s.useAt (s.addrIY d) State.opAdd).advance 3)

/-- `ADC A,r` (R226). -/
def execAdcReg (r : Reg8) (s : State) : Result :=
  .next ((s.opAdc (s.reg8 r)).advance 1)

/-- `ADC A,n` (R226). -/
def execAdcImm (n : Byte) (s : State) : Result :=
  .next ((s.opAdc n).advance 2)

/-- `ADC A,(HL)` (R226). -/
def execAdcAtHL (s : State) : Result :=
  .next ((s.useAt s.hl State.opAdc).advance 1)

/-- `ADC A,(IX+d)` (R226). -/
def execAdcAtIX (d : Byte) (s : State) : Result :=
  .next ((s.useAt (s.addrIX d) State.opAdc).advance 3)

/-- `ADC A,(IY+d)` (R226). -/
def execAdcAtIY (d : Byte) (s : State) : Result :=
  .next ((s.useAt (s.addrIY d) State.opAdc).advance 3)

/-- `SUB r` (R227). -/
def execSubReg (r : Reg8) (s : State) : Result :=
  .next ((s.opSub (s.reg8 r)).advance 1)

/-- `SUB n` (R227). -/
def execSubImm (n : Byte) (s : State) : Result :=
  .next ((s.opSub n).advance 2)

/-- `SUB (HL)` (R227). -/
def execSubAtHL (s : State) : Result :=
  .next ((s.useAt s.hl State.opSub).advance 1)

/-- `SUB (IX+d)` (R227). -/
def execSubAtIX (d : Byte) (s : State) : Result :=
  .next ((s.useAt (s.addrIX d) State.opSub).advance 3)

/-- `SUB (IY+d)` (R227). -/
def execSubAtIY (d : Byte) (s : State) : Result :=
  .next ((s.useAt (s.addrIY d) State.opSub).advance 3)

/-- `SBC A,r` (R228). -/
def execSbcReg (r : Reg8) (s : State) : Result :=
  .next ((s.opSbc (s.reg8 r)).advance 1)

/-- `SBC A,n` (R228). -/
def execSbcImm (n : Byte) (s : State) : Result :=
  .next ((s.opSbc n).advance 2)

/-- `SBC A,(HL)` (R228). -/
def execSbcAtHL (s : State) : Result :=
  .next ((s.useAt s.hl State.opSbc).advance 1)

/-- `SBC A,(IX+d)` (R228). -/
def execSbcAtIX (d : Byte) (s : State) : Result :=
  .next ((s.useAt (s.addrIX d) State.opSbc).advance 3)

/-- `SBC A,(IY+d)` (R228). -/
def execSbcAtIY (d : Byte) (s : State) : Result :=
  .next ((s.useAt (s.addrIY d) State.opSbc).advance 3)

/-- `AND r` (R229). -/
def execAndReg (r : Reg8) (s : State) : Result :=
  .next ((s.opAnd (s.reg8 r)).advance 1)

/-- `AND n` (R229). -/
def execAndImm (n : Byte) (s : State) : Result :=
  .next ((s.opAnd n).advance 2)

/-- `AND (HL)` (R229). -/
def execAndAtHL (s : State) : Result :=
  .next ((s.useAt s.hl State.opAnd).advance 1)

/-- `AND (IX+d)` (R229). -/
def execAndAtIX (d : Byte) (s : State) : Result :=
  .next ((s.useAt (s.addrIX d) State.opAnd).advance 3)

/-- `AND (IY+d)` (R229). -/
def execAndAtIY (d : Byte) (s : State) : Result :=
  .next ((s.useAt (s.addrIY d) State.opAnd).advance 3)

/-- `OR r` (R230). -/
def execOrReg (r : Reg8) (s : State) : Result :=
  .next ((s.opOr (s.reg8 r)).advance 1)

/-- `OR n` (R230). -/
def execOrImm (n : Byte) (s : State) : Result :=
  .next ((s.opOr n).advance 2)

/-- `OR (HL)` (R230). -/
def execOrAtHL (s : State) : Result :=
  .next ((s.useAt s.hl State.opOr).advance 1)

/-- `OR (IX+d)` (R230). -/
def execOrAtIX (d : Byte) (s : State) : Result :=
  .next ((s.useAt (s.addrIX d) State.opOr).advance 3)

/-- `OR (IY+d)` (R230). -/
def execOrAtIY (d : Byte) (s : State) : Result :=
  .next ((s.useAt (s.addrIY d) State.opOr).advance 3)

/-- `XOR r` (R231). -/
def execXorReg (r : Reg8) (s : State) : Result :=
  .next ((s.opXor (s.reg8 r)).advance 1)

/-- `XOR n` (R231). -/
def execXorImm (n : Byte) (s : State) : Result :=
  .next ((s.opXor n).advance 2)

/-- `XOR (HL)` (R231). -/
def execXorAtHL (s : State) : Result :=
  .next ((s.useAt s.hl State.opXor).advance 1)

/-- `XOR (IX+d)` (R231). -/
def execXorAtIX (d : Byte) (s : State) : Result :=
  .next ((s.useAt (s.addrIX d) State.opXor).advance 3)

/-- `XOR (IY+d)` (R231). -/
def execXorAtIY (d : Byte) (s : State) : Result :=
  .next ((s.useAt (s.addrIY d) State.opXor).advance 3)

/-- `CP r` (R232). -/
def execCpReg (r : Reg8) (s : State) : Result :=
  .next ((s.opCp (s.reg8 r)).advance 1)

/-- `CP n` (R232). -/
def execCpImm (n : Byte) (s : State) : Result :=
  .next ((s.opCp n).advance 2)

/-- `CP (HL)` (R232). -/
def execCpAtHL (s : State) : Result :=
  .next ((s.useAt s.hl State.opCp).advance 1)

/-- `CP (IX+d)` (R232). -/
def execCpAtIX (d : Byte) (s : State) : Result :=
  .next ((s.useAt (s.addrIX d) State.opCp).advance 3)

/-- `CP (IY+d)` (R232). -/
def execCpAtIY (d : Byte) (s : State) : Result :=
  .next ((s.useAt (s.addrIY d) State.opCp).advance 3)

/-- `INC r` (R233). -/
def execIncReg (r : Reg8) (s : State) : Result :=
  .next ((s.updateReg r incByte).advance 1)

/-- `INC (HL)` (R234). -/
def execIncAtHL (s : State) : Result :=
  .next ((s.updateAt s.hl incByte).advance 1)

/-- `INC (IX+d)` (R235). -/
def execIncAtIX (d : Byte) (s : State) : Result :=
  .next ((s.updateAt (s.addrIX d) incByte).advance 3)

/-- `INC (IY+d)` (R236). -/
def execIncAtIY (d : Byte) (s : State) : Result :=
  .next ((s.updateAt (s.addrIY d) incByte).advance 3)

/-- `DEC r` (R237). -/
def execDecReg (r : Reg8) (s : State) : Result :=
  .next ((s.updateReg r decByte).advance 1)

/-- `DEC (HL)` (R237). -/
def execDecAtHL (s : State) : Result :=
  .next ((s.updateAt s.hl decByte).advance 1)

/-- `DEC (IX+d)` (R237). -/
def execDecAtIX (d : Byte) (s : State) : Result :=
  .next ((s.updateAt (s.addrIX d) decByte).advance 3)

/-- `DEC (IY+d)` (R237). -/
def execDecAtIY (d : Byte) (s : State) : Result :=
  .next ((s.updateAt (s.addrIY d) decByte).advance 3)

end Sys2Proof.Machine
end

