-- ==== Sys2Proof/Machine/Arith16.lean ====
section
/-!
DEFINITION. The 16-bit arithmetic group (45_arith16.md).
-/

namespace Sys2Proof.Machine

/-! ## Shared operations: H after them is any value (R291, D5 of 92_eei_decisions.md) -/

/-- The flags of a 16-bit ADD: C, N = 0, H any; S, Z and P/V unchanged (R280). -/
def State.add16Flags (x : Arith 16) (s : State) : State :=
  let h := s.anyBit
  h.2.writeFlags { s.flags with h := h.1, n := false, c := x.cy }

/-- The flags of ADC HL and SBC HL: from the 16-bit result, H any (R281, R282). -/
def State.carry16Flags (x : Arith 16) (n : Bool) (s : State) : State :=
  let h := s.anyBit
  h.2.writeFlags { s := x.res.msb, z := x.res == 0, h := h.1, pv := x.ov, n := n, c := x.cy }

/-! ## Meanings -/

/-- `ADD HL,dd` (R280). -/
def execAddHLPair (p : PairDD) (s : State) : Result :=
  let x := add16 s.hl (s.pairDD p) false
  .next (((s.setHL x.res).add16Flags x).advance 1)

/-- `ADC HL,dd` (R281). -/
def execAdcHLPair (p : PairDD) (s : State) : Result :=
  let x := add16 s.hl (s.pairDD p) s.flags.c
  .next (((s.setHL x.res).carry16Flags x false).advance 2)

/-- `SBC HL,dd` (R282). -/
def execSbcHLPair (p : PairDD) (s : State) : Result :=
  let x := sub16 s.hl (s.pairDD p) s.flags.c
  .next (((s.setHL x.res).carry16Flags x true).advance 2)

/-- `ADD IX,pp` (R283). -/
def execAddIXPair (p : PairPP) (s : State) : Result :=
  let x := add16 s.ix (s.pairPP p) false
  .next (((s.setIX x.res).add16Flags x).advance 2)

/-- `ADD IY,rr` (R284). -/
def execAddIYPair (p : PairRR) (s : State) : Result :=
  let x := add16 s.iy (s.pairRR p) false
  .next (((s.setIY x.res).add16Flags x).advance 2)

/-- `INC dd` (R285). -/
def execIncPair (p : PairDD) (s : State) : Result :=
  .next ((s.setPairDD p (s.pairDD p + 1)).advance 1)

/-- `INC IX` (R286). -/
def execIncIX (s : State) : Result :=
  .next ((s.setIX (s.ix + 1)).advance 2)

/-- `INC IY` (R287). -/
def execIncIY (s : State) : Result :=
  .next ((s.setIY (s.iy + 1)).advance 2)

/-- `DEC dd` (R288). -/
def execDecPair (p : PairDD) (s : State) : Result :=
  .next ((s.setPairDD p (s.pairDD p - 1)).advance 1)

/-- `DEC IX` (R289). -/
def execDecIX (s : State) : Result :=
  .next ((s.setIX (s.ix - 1)).advance 2)

/-- `DEC IY` (R290). -/
def execDecIY (s : State) : Result :=
  .next ((s.setIY (s.iy - 1)).advance 2)

end Sys2Proof.Machine
end

