-- ==== Sys2Proof/Machine/Bit.lean ====
section
/-!
DEFINITION. The bit set, reset and test group (47_bit.md).
-/

namespace Sys2Proof.Machine

/-! ## Shared operations -/

/-- The flags of BIT: Z is the complement of the tested bit, H = 1, N = 0, C unchanged, S and P/V any value
(R330, D5 of 92_eei_decisions.md). -/
def State.testBit (b : Nat) (v : Byte) (s : State) : State :=
  let sgn := s.anyBit
  let pv := sgn.2.anyBit
  pv.2.writeFlags { s := sgn.1, z := !v.getLsbD b, h := true, pv := pv.1, n := false, c := s.flags.c }

/-- SET of a byte; no flag changes (R334). -/
def setBitByte (b : Nat) (v : Byte) (s : State) : Byte × State := (setBitOf b v, s)

/-- RES of a byte; no flag changes (R338). -/
def resBitByte (b : Nat) (v : Byte) (s : State) : Byte × State := (clearBitOf b v, s)

/-! ## Meanings -/

/-- `BIT b,r` (R330). -/
def execBitReg (b : Nat) (r : Reg8) (s : State) : Result :=
  .next ((s.testBit b (s.reg8 r)).advance 2)

/-- `BIT b,(HL)` (R331). -/
def execBitAtHL (b : Nat) (s : State) : Result :=
  .next ((s.useAt s.hl (State.testBit b)).advance 2)

/-- `BIT b,(IX+d)` (R332). -/
def execBitAtIX (b : Nat) (d : Byte) (s : State) : Result :=
  .next ((s.useAt (s.addrIX d) (State.testBit b)).advance 4)

/-- `BIT b,(IY+d)` (R333). -/
def execBitAtIY (b : Nat) (d : Byte) (s : State) : Result :=
  .next ((s.useAt (s.addrIY d) (State.testBit b)).advance 4)

/-- `SET b,r` (R334). -/
def execSetReg (b : Nat) (r : Reg8) (s : State) : Result :=
  .next ((s.updateReg r (setBitByte b)).advance 2)

/-- `SET b,(HL)` (R335). -/
def execSetAtHL (b : Nat) (s : State) : Result :=
  .next ((s.updateAt s.hl (setBitByte b)).advance 2)

/-- `SET b,(IX+d)` (R336). -/
def execSetAtIX (b : Nat) (d : Byte) (s : State) : Result :=
  .next ((s.updateAt (s.addrIX d) (setBitByte b)).advance 4)

/-- `SET b,(IY+d)` (R337). -/
def execSetAtIY (b : Nat) (d : Byte) (s : State) : Result :=
  .next ((s.updateAt (s.addrIY d) (setBitByte b)).advance 4)

/-- `RES b,r` (R338). -/
def execResReg (b : Nat) (r : Reg8) (s : State) : Result :=
  .next ((s.updateReg r (resBitByte b)).advance 2)

/-- `RES b,(HL)` (R338). -/
def execResAtHL (b : Nat) (s : State) : Result :=
  .next ((s.updateAt s.hl (resBitByte b)).advance 2)

/-- `RES b,(IX+d)` (R338). -/
def execResAtIX (b : Nat) (d : Byte) (s : State) : Result :=
  .next ((s.updateAt (s.addrIX d) (resBitByte b)).advance 4)

/-- `RES b,(IY+d)` (R338). -/
def execResAtIY (b : Nat) (d : Byte) (s : State) : Result :=
  .next ((s.updateAt (s.addrIY d) (resBitByte b)).advance 4)

end Sys2Proof.Machine
end

