-- ==== Sys2Proof/Machine/Exchange.lean ====
section
/-!
DEFINITION. The exchange, block transfer and block search group (42_exchange_block.md). One iteration of a repeating
instruction is one step (R204).
-/

namespace Sys2Proof.Machine

/-! ## Shared operations -/

/-- The exchange of a 16-bit register with the item on top of the stack: read low, read high, write high, write
low, then the register (R193; R67 of 20_memory.md). -/
def State.exchangeTop (old : Word) (put : Word → State → State) (s : State) : State :=
  let item := s.read16 s.sp
  put item.1 ((item.2.write8 (s.sp + 1) (hiByte old)).write8 s.sp (loByte old))

/-- The flags after a block transfer: P/V = (BC is not 0 after the decrement), H = N = 0 (R196). -/
def State.blockLoadFlags (s : State) : State :=
  s.writeFlags { s.flags with h := false, pv := s.bc != 0, n := false }

/-- One block transfer, DE and HL moving by `delta` (R196, R198). -/
def State.blockLoad (delta : Word) (s : State) : State :=
  let v := s.read8 s.hl
  let t := v.2.write8 s.de v.1
  (((t.setDE (s.de + delta)).setHL (s.hl + delta)).setBC (s.bc - 1)).blockLoadFlags

/-- One block comparison, HL moving by `delta` (R200, R202); A and C are not changed. -/
def State.blockCompare (delta : Word) (s : State) : State :=
  let v := s.read8 s.hl
  let x := sub8 s.a v.1 false
  let t := (v.2.setHL (s.hl + delta)).setBC (s.bc - 1)
  t.writeFlags { t.flags with s := x.res.msb, z := x.res == 0, h := x.hc, pv := t.bc != 0, n := true }

/-- The end of a repeating block instruction of two bytes: back to its own address, where PC still is, or on to
the next instruction (R204). -/
def State.repeatWhile (again : Bool) (s : State) : State := if again then s else s.advance 2

/-! ## Meanings -/

/-- `EX DE,HL` (R190). -/
def execExDEHL (s : State) : Result :=
  .next (((s.setDE s.hl).setHL s.de).advance 1)

/-- `EX AF,AF'` (R191): all eight bits of F and F'. -/
def execExAFAF (s : State) : Result :=
  .next (State.advance 1 { s with a := s.a', f := s.f', a' := s.a, f' := s.f })

/-- `EXX` (R192). -/
def execExx (s : State) : Result :=
  .next (State.advance 1
    { s with
      b := s.b', c := s.c', d := s.d', e := s.e', h := s.h', l := s.l'
      b' := s.b, c' := s.c, d' := s.d, e' := s.e, h' := s.h, l' := s.l })

/-- `EX (SP),HL` (R193). -/
def execExAtSPHL (s : State) : Result :=
  .next ((s.exchangeTop s.hl State.setHL).advance 1)

/-- `EX (SP),IX` (R194). -/
def execExAtSPIX (s : State) : Result :=
  .next ((s.exchangeTop s.ix State.setIX).advance 2)

/-- `EX (SP),IY` (R195). -/
def execExAtSPIY (s : State) : Result :=
  .next ((s.exchangeTop s.iy State.setIY).advance 2)

/-- `LDI` (R196). -/
def execLdi (s : State) : Result :=
  .next ((s.blockLoad 1).advance 2)

/-- `LDIR` (R197): one iteration; it repeats while BC is not 0. -/
def execLdir (s : State) : Result :=
  let t := s.blockLoad 1
  .next (t.repeatWhile (t.bc != 0))

/-- `LDD` (R198). -/
def execLdd (s : State) : Result :=
  .next ((s.blockLoad (-1)).advance 2)

/-- `LDDR` (R199): one iteration; it repeats while BC is not 0. -/
def execLddr (s : State) : Result :=
  let t := s.blockLoad (-1)
  .next (t.repeatWhile (t.bc != 0))

/-- `CPI` (R200). -/
def execCpi (s : State) : Result :=
  .next ((s.blockCompare 1).advance 2)

/-- `CPIR` (R201): one iteration; it repeats while BC is not 0 and no match was found. -/
def execCpir (s : State) : Result :=
  let t := s.blockCompare 1
  .next (t.repeatWhile (t.bc != 0 && !t.flags.z))

/-- `CPD` (R202). -/
def execCpd (s : State) : Result :=
  .next ((s.blockCompare (-1)).advance 2)

/-- `CPDR` (R203): one iteration; it repeats while BC is not 0 and no match was found. -/
def execCpdr (s : State) : Result :=
  let t := s.blockCompare (-1)
  .next (t.repeatWhile (t.bc != 0 && !t.flags.z))

end Sys2Proof.Machine
end

