-- ==== Sys2Proof/Machine/General.lean ====
section
/-!
DEFINITION. The general-purpose arithmetic and CPU control group (44_general_cpu_control.md).
-/

namespace Sys2Proof.Machine

/-- `CY <- v` with N and H as given; Z, P/V and S unchanged (R263, R264). -/
def State.writeCarry (c h : Bool) (s : State) : State :=
  s.writeFlags { s.flags with c := c, h := h, n := false }

/-! ## Meanings -/

/-- `DAA` (R260). -/
def execDaa (s : State) : Result :=
  .next (((s.setA (daaResult s.a s.flags)).writeFlags (daaFlags s.a s.flags)).advance 1)

/-- `CPL` (R261). -/
def execCpl (s : State) : Result :=
  .next (((s.setA (s.a ^^^ 0xFF)).writeFlags { s.flags with n := true, h := true }).advance 1)

/-- `NEG` (R262). -/
def execNeg (s : State) : Result :=
  .next (((s.setA (sub8 0 s.a false).res).writeFlags (arithFlags (sub8 0 s.a false) true)).advance 2)

/-- `CCF` (R263): H receives the old carry (C23 of 90_conflicts.md). -/
def execCcf (s : State) : Result :=
  .next ((s.writeCarry (!s.flags.c) s.flags.c).advance 1)

/-- `SCF` (R264). -/
def execScf (s : State) : Result :=
  .next ((s.writeCarry true false).advance 1)

/-- `NOP` (R265). -/
def execNop (s : State) : Result :=
  .next (s.advance 1)

/-- `HALT` (R266): PC is left after the HALT. -/
def execHalt (s : State) : Result :=
  .next (State.advance 1 { s with halted := true })

/-- `DI` (R267). -/
def execDi (s : State) : Result :=
  .next (State.advance 1 { s with iff1 := false, iff2 := false })

/-- `EI` (R268): the flip-flops at once, and the shadow over the next step. -/
def execEi (s : State) : Result :=
  .next (State.advance 1 { s with iff1 := true, iff2 := true, eiShadow := true })

/-- `IM 0` (R269). -/
def execIm0 (s : State) : Result :=
  .next (State.advance 2 { s with im := .im0 })

/-- `IM 1` (R270). -/
def execIm1 (s : State) : Result :=
  .next (State.advance 2 { s with im := .im1 })

/-- `IM 2` (R271). -/
def execIm2 (s : State) : Result :=
  .next (State.advance 2 { s with im := .im2 })

end Sys2Proof.Machine
end

