-- ==== Sys2Proof/Machine/Io.lean ====
section
/-!
DEFINITION. The input and output group (49_io.md).
-/

namespace Sys2Proof.Machine

/-! ## Shared operations -/

/-- The flags of the block I/O instructions, from B after its decrement: Z = (B = 0), N = 1, C unchanged, S, P/V
and H any value (R403, D5 of 92_eei_decisions.md). -/
def State.blockIoFlags (s : State) : State :=
  let sgn := s.anyBit
  let pv := sgn.2.anyBit
  let half := pv.2.anyBit
  half.2.writeFlags { s := sgn.1, z := s.b == 0, h := half.1, pv := pv.1, n := true, c := s.flags.c }

/-- One block input, HL moving by `delta`: the port is BC before B's decrement (R390, R393, R395). -/
def State.blockIn (delta : Word) (s : State) : State :=
  let v := s.portIn s.bc
  let t := v.2.write8 s.hl v.1
  ((t.setB (s.b - 1)).setHL (s.hl + delta)).blockIoFlags

/-- One block output, HL moving by `delta`: the port is BC after B's decrement (R390, R399, R401). -/
def State.blockOut (delta : Word) (s : State) : State :=
  let v := s.read8 s.hl
  let t := v.2.setB (s.b - 1)
  ((t.portOut t.bc v.1).setHL (s.hl + delta)).blockIoFlags

/-- The end of a repeating block I/O instruction: again while B is not 0 (R403; R204 of 42_exchange_block.md). -/
def State.repeatWhileB (s : State) : State := if s.b != 0 then s else s.advance 2

/-! ## Input -/

/-- `IN A,(n)` (R391): the port is `A ++ n` with the old A; no flag changes. -/
def execInAImm (n : Byte) (s : State) : Result :=
  let v := s.portIn (joinBytes s.a n)
  .next ((v.2.setA v.1).advance 2)

/-- `IN r,(C)` (R392): the port is the old BC; H is written 0 (C25 of 90_conflicts.md). -/
def execInRegC (r : Reg8) (s : State) : Result :=
  let v := s.portIn s.bc
  .next (((v.2.setReg8 r v.1).writeFlags (byteFlags v.1 s.flags.c)).advance 2)

/-- `INI` (R393). -/
def execIni (s : State) : Result :=
  .next ((s.blockIn 1).advance 2)

/-- `INIR` (R394): one iteration; it repeats while B is not 0. -/
def execInir (s : State) : Result :=
  .next (s.blockIn 1).repeatWhileB

/-- `IND` (R395). -/
def execInd (s : State) : Result :=
  .next ((s.blockIn (-1)).advance 2)

/-- `INDR` (R396): one iteration; it repeats while B is not 0. -/
def execIndr (s : State) : Result :=
  .next (s.blockIn (-1)).repeatWhileB

/-! ## Output -/

/-- `OUT (n),A` (R397): the port is `A ++ n`. -/
def execOutImmA (n : Byte) (s : State) : Result :=
  .next ((s.portOut (joinBytes s.a n) s.a).advance 2)

/-- `OUT (C),r` (R398): the port is BC. -/
def execOutCReg (r : Reg8) (s : State) : Result :=
  .next ((s.portOut s.bc (s.reg8 r)).advance 2)

/-- `OUTI` (R399). -/
def execOuti (s : State) : Result :=
  .next ((s.blockOut 1).advance 2)

/-- `OTIR` (R400): one iteration; it repeats while B is not 0. -/
def execOtir (s : State) : Result :=
  .next (s.blockOut 1).repeatWhileB

/-- `OUTD` (R401). -/
def execOutd (s : State) : Result :=
  .next ((s.blockOut (-1)).advance 2)

/-- `OTDR` (R402): one iteration; it repeats while B is not 0. -/
def execOtdr (s : State) : Result :=
  .next (s.blockOut (-1)).repeatWhileB

end Sys2Proof.Machine
end

