-- ==== Sys2Proof/Machine/Jump.lean ====
section
/-!
DEFINITION. The jump group and the call and return group (48_jump_call_return.md). None changes a flag (R350).
-/

namespace Sys2Proof.Machine

/-! ## Shared operations -/

/-- A two-byte relative jump, taken or not (R353; R102 of 30_encoding.md). -/
def State.jumpRelative (taken : Bool) (e : Byte) (s : State) : State :=
  if taken then s.jumpTo (s.pcNext 2 + sext16 e) else s.advance 2

/-! ## Jumps -/

/-- `JP nn` (R351). -/
def execJpImm (nn : Word) (s : State) : Result :=
  .next (s.jumpTo nn)

/-- `JP cc,nn` (R352). -/
def execJpCond (cc : Cond) (nn : Word) (s : State) : Result :=
  .next (if s.cond cc then s.jumpTo nn else s.advance 3)

/-- `JR e` (R353). -/
def execJr (e : Byte) (s : State) : Result :=
  .next (s.jumpRelative true e)

/-- `JR C,e` (R354). -/
def execJrC (e : Byte) (s : State) : Result :=
  .next (s.jumpRelative s.flags.c e)

/-- `JR NC,e` (R355). -/
def execJrNC (e : Byte) (s : State) : Result :=
  .next (s.jumpRelative (!s.flags.c) e)

/-- `JR Z,e` (R356). -/
def execJrZ (e : Byte) (s : State) : Result :=
  .next (s.jumpRelative s.flags.z e)

/-- `JR NZ,e` (R357). -/
def execJrNZ (e : Byte) (s : State) : Result :=
  .next (s.jumpRelative (!s.flags.z) e)

/-- `JP (HL)` (R358): no memory is read. -/
def execJpHL (s : State) : Result :=
  .next (s.jumpTo s.hl)

/-- `JP (IX)` (R359): no memory is read. -/
def execJpIX (s : State) : Result :=
  .next (s.jumpTo s.ix)

/-- `JP (IY)` (R360): no memory is read. -/
def execJpIY (s : State) : Result :=
  .next (s.jumpTo s.iy)

/-- `DJNZ e` (R361): no flag changes. -/
def execDjnz (e : Byte) (s : State) : Result :=
  .next ((s.setB (s.b - 1)).jumpRelative (s.b - 1 != 0) e)

/-! ## Calls, returns, restarts -/

/-- `CALL nn` (R362). -/
def execCallImm (nn : Word) (s : State) : Result :=
  .next (s.callTo nn (s.pcNext 3))

/-- `CALL cc,nn` (R363). -/
def execCallCond (cc : Cond) (nn : Word) (s : State) : Result :=
  .next (if s.cond cc then s.callTo nn (s.pcNext 3) else s.advance 3)

/-- `RET` (R364). -/
def execRet (s : State) : Result :=
  .next s.returnPop

/-- `RET cc` (R365). -/
def execRetCond (cc : Cond) (s : State) : Result :=
  .next (if s.cond cc then s.returnPop else s.advance 1)

/-- `RETI` (R366). -/
def execReti (s : State) : Result :=
  .next s.returnFromInt

/-- `RETN` (R367). -/
def execRetn (s : State) : Result :=
  .next s.returnFromNmi

/-- `RST p` (R368). -/
def execRst (p : Byte) (s : State) : Result :=
  .next (s.callTo (p.setWidth 16) (s.pcNext 1))

end Sys2Proof.Machine
end

