-- ==== Sys2Proof/Machine/Load16.lean ====
section
/-!
DEFINITION. The 16-bit load group, PUSH and POP (41_load16.md). None changes a flag but `POP AF` (R180).
-/

namespace Sys2Proof.Machine

/-! ## Shared operations -/

/-- A 16-bit load from memory, its word given to a register write (R163). -/
def State.load16At (addr : Word) (put : Word → State → State) (s : State) : State :=
  put (s.read16 addr).1 (s.read16 addr).2

/-- A pop, its word given to a register write (R177). -/
def State.popInto (put : Word → State → State) (s : State) : State := put s.pop16.1 s.pop16.2

/-! ## Meanings -/

/-- `LD dd,nn` (R160). -/
def execLdPairImm (p : PairDD) (nn : Word) (s : State) : Result :=
  .next ((s.setPairDD p nn).advance 3)

/-- `LD IX,nn` (R161). -/
def execLdIXImm (nn : Word) (s : State) : Result :=
  .next ((s.setIX nn).advance 4)

/-- `LD IY,nn` (R162). -/
def execLdIYImm (nn : Word) (s : State) : Result :=
  .next ((s.setIY nn).advance 4)

/-- `LD HL,(nn)` (R163). -/
def execLdHLAtNN (nn : Word) (s : State) : Result :=
  .next ((s.load16At nn State.setHL).advance 3)

/-- `LD dd,(nn)` (R164). -/
def execLdPairAtNN (p : PairDD) (nn : Word) (s : State) : Result :=
  .next ((s.load16At nn (State.setPairDD p)).advance 4)

/-- `LD IX,(nn)` (R165). -/
def execLdIXAtNN (nn : Word) (s : State) : Result :=
  .next ((s.load16At nn State.setIX).advance 4)

/-- `LD IY,(nn)` (R166). -/
def execLdIYAtNN (nn : Word) (s : State) : Result :=
  .next ((s.load16At nn State.setIY).advance 4)

/-- `LD (nn),HL` (R167). -/
def execLdAtNNHL (nn : Word) (s : State) : Result :=
  .next ((s.write16 nn s.hl).advance 3)

/-- `LD (nn),dd` (R168). -/
def execLdAtNNPair (nn : Word) (p : PairDD) (s : State) : Result :=
  .next ((s.write16 nn (s.pairDD p)).advance 4)

/-- `LD (nn),IX` (R169). -/
def execLdAtNNIX (nn : Word) (s : State) : Result :=
  .next ((s.write16 nn s.ix).advance 4)

/-- `LD (nn),IY` (R170). -/
def execLdAtNNIY (nn : Word) (s : State) : Result :=
  .next ((s.write16 nn s.iy).advance 4)

/-- `LD SP,HL` (R171). -/
def execLdSPHL (s : State) : Result :=
  .next ((s.setSP s.hl).advance 1)

/-- `LD SP,IX` (R172). -/
def execLdSPIX (s : State) : Result :=
  .next ((s.setSP s.ix).advance 2)

/-- `LD SP,IY` (R173). -/
def execLdSPIY (s : State) : Result :=
  .next ((s.setSP s.iy).advance 2)

/-- `PUSH qq` (R174). -/
def execPushPair (q : PairQQ) (s : State) : Result :=
  .next ((s.push16 (s.pairQQ q)).advance 1)

/-- `PUSH IX` (R175). -/
def execPushIX (s : State) : Result :=
  .next ((s.push16 s.ix).advance 2)

/-- `PUSH IY` (R176). -/
def execPushIY (s : State) : Result :=
  .next ((s.push16 s.iy).advance 2)

/-- `POP qq` (R177); `POP AF` writes all eight bits of F. -/
def execPopPair (q : PairQQ) (s : State) : Result :=
  .next ((s.popInto (State.setPairQQ q)).advance 1)

/-- `POP IX` (R178). -/
def execPopIX (s : State) : Result :=
  .next ((s.popInto State.setIX).advance 2)

/-- `POP IY` (R179). -/
def execPopIY (s : State) : Result :=
  .next ((s.popInto State.setIY).advance 2)

end Sys2Proof.Machine
end

