-- ==== Sys2Proof/Machine/Load8.lean ====
section
/-!
DEFINITION. The 8-bit load group (40_load8.md). None changes a flag but `LD A,I` and `LD A,R` (R151).
-/

namespace Sys2Proof.Machine

/-! ## Shared operations -/

/-- The effect of `LD A,I` and `LD A,R` on A and F (R147, R148): P/V is IFF2, but any value where a maskable
interrupt is accepted directly after (A9 of 93_implementation_defined.md; log entry 10). -/
def State.loadAFromSpecial (v : Byte) (s : State) : State :=
  let pv := if s.intFollows then s.anyBit else (s.iff2, s)
  (pv.2.setA v).writeFlags { s := v.msb, z := v == 0, h := false, pv := pv.1, n := false, c := s.flags.c }

/-- `r <- (addr)`. -/
def State.loadRegAt (r : Reg8) (addr : Word) (s : State) : State := s.useAt addr (State.setReg8 r)

/-! ## Meanings -/

/-- `LD r,r'` (R130). -/
def execLdRegReg (r r' : Reg8) (s : State) : Result :=
  .next ((s.setReg8 r (s.reg8 r')).advance 1)

/-- `LD r,n` (R131). -/
def execLdRegImm (r : Reg8) (n : Byte) (s : State) : Result :=
  .next ((s.setReg8 r n).advance 2)

/-- `LD r,(HL)` (R132). -/
def execLdRegAtHL (r : Reg8) (s : State) : Result :=
  .next ((s.loadRegAt r s.hl).advance 1)

/-- `LD r,(IX+d)` (R133). -/
def execLdRegAtIX (r : Reg8) (d : Byte) (s : State) : Result :=
  .next ((s.loadRegAt r (s.addrIX d)).advance 3)

/-- `LD r,(IY+d)` (R134). -/
def execLdRegAtIY (r : Reg8) (d : Byte) (s : State) : Result :=
  .next ((s.loadRegAt r (s.addrIY d)).advance 3)

/-- `LD (HL),r` (R135). -/
def execLdAtHLReg (r : Reg8) (s : State) : Result :=
  .next ((s.write8 s.hl (s.reg8 r)).advance 1)

/-- `LD (IX+d),r` (R136). -/
def execLdAtIXReg (d : Byte) (r : Reg8) (s : State) : Result :=
  .next ((s.write8 (s.addrIX d) (s.reg8 r)).advance 3)

/-- `LD (IY+d),r` (R137). -/
def execLdAtIYReg (d : Byte) (r : Reg8) (s : State) : Result :=
  .next ((s.write8 (s.addrIY d) (s.reg8 r)).advance 3)

/-- `LD (HL),n` (R138). -/
def execLdAtHLImm (n : Byte) (s : State) : Result :=
  .next ((s.write8 s.hl n).advance 2)

/-- `LD (IX+d),n` (R139). -/
def execLdAtIXImm (d n : Byte) (s : State) : Result :=
  .next ((s.write8 (s.addrIX d) n).advance 4)

/-- `LD (IY+d),n` (R140). -/
def execLdAtIYImm (d n : Byte) (s : State) : Result :=
  .next ((s.write8 (s.addrIY d) n).advance 4)

/-- `LD A,(BC)` (R141). -/
def execLdAAtBC (s : State) : Result :=
  .next ((s.loadRegAt .a s.bc).advance 1)

/-- `LD A,(DE)` (R142). -/
def execLdAAtDE (s : State) : Result :=
  .next ((s.loadRegAt .a s.de).advance 1)

/-- `LD A,(nn)` (R143). -/
def execLdAAtNN (nn : Word) (s : State) : Result :=
  .next ((s.loadRegAt .a nn).advance 3)

/-- `LD (BC),A` (R144). -/
def execLdAtBCA (s : State) : Result :=
  .next ((s.write8 s.bc s.a).advance 1)

/-- `LD (DE),A` (R145). -/
def execLdAtDEA (s : State) : Result :=
  .next ((s.write8 s.de s.a).advance 1)

/-- `LD (nn),A` (R146). -/
def execLdAtNNA (nn : Word) (s : State) : Result :=
  .next ((s.write8 nn s.a).advance 3)

/-- `LD A,I` (R147). -/
def execLdAI (s : State) : Result :=
  .next ((s.loadAFromSpecial s.i).advance 2)

/-- `LD A,R` (R148): the step has already counted this instruction's two fetches in R. -/
def execLdAR (s : State) : Result :=
  .next ((s.loadAFromSpecial s.r).advance 2)

/-- `LD I,A` (R149). -/
def execLdIA (s : State) : Result :=
  .next (State.advance 2 { s with i := s.a })

/-- `LD R,A` (R150): all eight bits, after the step has counted this instruction's two fetches. -/
def execLdRA (s : State) : Result :=
  .next (State.advance 2 { s with r := s.a })

end Sys2Proof.Machine
end

