-- ==== Sys2Proof/Machine/Rotate.lean ====
section
/-!
DEFINITION. The rotate and shift group (46_rotate_shift.md).
-/

namespace Sys2Proof.Machine

/-! ## Shared operations -/

/-- A one-byte accumulator rotate: A and C from the bit movement, N = H = 0, the other flags unchanged (R316(c)). -/
def State.rotateA (res : Byte × Bool) (s : State) : State :=
  (s.setA res.1).writeFlags { s.flags with c := res.2, n := false, h := false }

/-- A CB-page rotate or shift of a byte: the result, and the flags written (R316(c)). -/
def rotateByte (move : State → Byte → Byte × Bool) (v : Byte) (s : State) : Byte × State :=
  ((move s v).1, s.writeFlags (byteFlags (move s v).1 (move s v).2))

/-- RLC of a byte (R304). -/
def rlcByte : Byte → State → Byte × State := rotateByte fun _ => rlcBits

/-- RL of a byte (R308). -/
def rlByte : Byte → State → Byte × State := rotateByte fun s => rlBits s.flags.c

/-- RRC of a byte (R309). -/
def rrcByte : Byte → State → Byte × State := rotateByte fun _ => rrcBits

/-- RR of a byte (R310). -/
def rrByte : Byte → State → Byte × State := rotateByte fun s => rrBits s.flags.c

/-- SLA of a byte (R311). -/
def slaByte : Byte → State → Byte × State := rotateByte fun _ => slaBits

/-- SRA of a byte (R312). -/
def sraByte : Byte → State → Byte × State := rotateByte fun _ => sraBits

/-- SRL of a byte (R313). -/
def srlByte : Byte → State → Byte × State := rotateByte fun _ => srlBits

/-- A byte of two nibbles. -/
def joinNibbles (hi lo : Nat) : Byte := BitVec.ofNat 8 (hi * 16 + lo)

/-- The write of A and its flags at the end of RLD and RRD; C unchanged (R314). -/
def State.setAWithByteFlags (v : Byte) (s : State) : State :=
  (s.setA v).writeFlags (byteFlags v s.flags.c)

/-! ## Meanings -/

/-- `RLCA` (R300). -/
def execRlca (s : State) : Result :=
  .next ((s.rotateA (rlcBits s.a)).advance 1)

/-- `RLA` (R301). -/
def execRla (s : State) : Result :=
  .next ((s.rotateA (rlBits s.flags.c s.a)).advance 1)

/-- `RRCA` (R302). -/
def execRrca (s : State) : Result :=
  .next ((s.rotateA (rrcBits s.a)).advance 1)

/-- `RRA` (R303). -/
def execRra (s : State) : Result :=
  .next ((s.rotateA (rrBits s.flags.c s.a)).advance 1)

/-- `RLC r` (R304). -/
def execRlcReg (r : Reg8) (s : State) : Result :=
  .next ((s.updateReg r rlcByte).advance 2)

/-- `RLC (HL)` (R305). -/
def execRlcAtHL (s : State) : Result :=
  .next ((s.updateAt s.hl rlcByte).advance 2)

/-- `RLC (IX+d)` (R306). -/
def execRlcAtIX (d : Byte) (s : State) : Result :=
  .next ((s.updateAt (s.addrIX d) rlcByte).advance 4)

/-- `RLC (IY+d)` (R307). -/
def execRlcAtIY (d : Byte) (s : State) : Result :=
  .next ((s.updateAt (s.addrIY d) rlcByte).advance 4)

/-- `RL r` (R308). -/
def execRlReg (r : Reg8) (s : State) : Result :=
  .next ((s.updateReg r rlByte).advance 2)

/-- `RL (HL)` (R308). -/
def execRlAtHL (s : State) : Result :=
  .next ((s.updateAt s.hl rlByte).advance 2)

/-- `RL (IX+d)` (R308). -/
def execRlAtIX (d : Byte) (s : State) : Result :=
  .next ((s.updateAt (s.addrIX d) rlByte).advance 4)

/-- `RL (IY+d)` (R308). -/
def execRlAtIY (d : Byte) (s : State) : Result :=
  .next ((s.updateAt (s.addrIY d) rlByte).advance 4)

/-- `RRC r` (R309). -/
def execRrcReg (r : Reg8) (s : State) : Result :=
  .next ((s.updateReg r rrcByte).advance 2)

/-- `RRC (HL)` (R309). -/
def execRrcAtHL (s : State) : Result :=
  .next ((s.updateAt s.hl rrcByte).advance 2)

/-- `RRC (IX+d)` (R309). -/
def execRrcAtIX (d : Byte) (s : State) : Result :=
  .next ((s.updateAt (s.addrIX d) rrcByte).advance 4)

/-- `RRC (IY+d)` (R309). -/
def execRrcAtIY (d : Byte) (s : State) : Result :=
  .next ((s.updateAt (s.addrIY d) rrcByte).advance 4)

/-- `RR r` (R310). -/
def execRrReg (r : Reg8) (s : State) : Result :=
  .next ((s.updateReg r rrByte).advance 2)

/-- `RR (HL)` (R310). -/
def execRrAtHL (s : State) : Result :=
  .next ((s.updateAt s.hl rrByte).advance 2)

/-- `RR (IX+d)` (R310). -/
def execRrAtIX (d : Byte) (s : State) : Result :=
  .next ((s.updateAt (s.addrIX d) rrByte).advance 4)

/-- `RR (IY+d)` (R310). -/
def execRrAtIY (d : Byte) (s : State) : Result :=
  .next ((s.updateAt (s.addrIY d) rrByte).advance 4)

/-- `SLA r` (R311). -/
def execSlaReg (r : Reg8) (s : State) : Result :=
  .next ((s.updateReg r slaByte).advance 2)

/-- `SLA (HL)` (R311). -/
def execSlaAtHL (s : State) : Result :=
  .next ((s.updateAt s.hl slaByte).advance 2)

/-- `SLA (IX+d)` (R311). -/
def execSlaAtIX (d : Byte) (s : State) : Result :=
  .next ((s.updateAt (s.addrIX d) slaByte).advance 4)

/-- `SLA (IY+d)` (R311). -/
def execSlaAtIY (d : Byte) (s : State) : Result :=
  .next ((s.updateAt (s.addrIY d) slaByte).advance 4)

/-- `SRA r` (R312). -/
def execSraReg (r : Reg8) (s : State) : Result :=
  .next ((s.updateReg r sraByte).advance 2)

/-- `SRA (HL)` (R312). -/
def execSraAtHL (s : State) : Result :=
  .next ((s.updateAt s.hl sraByte).advance 2)

/-- `SRA (IX+d)` (R312). -/
def execSraAtIX (d : Byte) (s : State) : Result :=
  .next ((s.updateAt (s.addrIX d) sraByte).advance 4)

/-- `SRA (IY+d)` (R312). -/
def execSraAtIY (d : Byte) (s : State) : Result :=
  .next ((s.updateAt (s.addrIY d) sraByte).advance 4)

/-- `SRL r` (R313). -/
def execSrlReg (r : Reg8) (s : State) : Result :=
  .next ((s.updateReg r srlByte).advance 2)

/-- `SRL (HL)` (R313). -/
def execSrlAtHL (s : State) : Result :=
  .next ((s.updateAt s.hl srlByte).advance 2)

/-- `SRL (IX+d)` (R313). -/
def execSrlAtIX (d : Byte) (s : State) : Result :=
  .next ((s.updateAt (s.addrIX d) srlByte).advance 4)

/-- `SRL (IY+d)` (R313). -/
def execSrlAtIY (d : Byte) (s : State) : Result :=
  .next ((s.updateAt (s.addrIY d) srlByte).advance 4)

/-- `RLD` (R314): the nibbles A[3:0], (HL)[7:4], (HL)[3:0] rotate one place to the left. -/
def execRld (s : State) : Result :=
  let v := s.read8 s.hl
  let t := v.2.write8 s.hl (joinNibbles (v.1.toNat % 16) (s.a.toNat % 16))
  .next ((t.setAWithByteFlags (joinNibbles (s.a.toNat / 16) (v.1.toNat / 16))).advance 2)

/-- `RRD` (R315): the same nibbles rotate one place to the right. -/
def execRrd (s : State) : Result :=
  let v := s.read8 s.hl
  let t := v.2.write8 s.hl (joinNibbles (s.a.toNat % 16) (v.1.toNat / 16))
  .next ((t.setAWithByteFlags (joinNibbles (s.a.toNat / 16) (v.1.toNat % 16))).advance 2)

end Sys2Proof.Machine
end

