-- ==== Sys2Proof/Machine/Dispatch.lean ====
section
/-! DEFINITION. One arm per instruction, each one direct call of its meaning. -/

namespace Sys2Proof.Machine

-- The meaning of an instruction, in a state whose PC is the address of its first byte.
def exec (i : Instr) (s : State) : Host.Outcome State Fault Refusal :=
  match i with
  -- 8-bit loads (40_load8.md)
  | .ldRegReg r r' => Sys2Proof.Machine.execLdRegReg r r' s
  | .ldRegImm r n => Sys2Proof.Machine.execLdRegImm r n s
  | .ldRegAtHL r => Sys2Proof.Machine.execLdRegAtHL r s
  | .ldRegAtIX r d => Sys2Proof.Machine.execLdRegAtIX r d s
  | .ldRegAtIY r d => Sys2Proof.Machine.execLdRegAtIY r d s
  | .ldAtHLReg r => Sys2Proof.Machine.execLdAtHLReg r s
  | .ldAtIXReg d r => Sys2Proof.Machine.execLdAtIXReg d r s
  | .ldAtIYReg d r => Sys2Proof.Machine.execLdAtIYReg d r s
  | .ldAtHLImm n => Sys2Proof.Machine.execLdAtHLImm n s
  | .ldAtIXImm d n => Sys2Proof.Machine.execLdAtIXImm d n s
  | .ldAtIYImm d n => Sys2Proof.Machine.execLdAtIYImm d n s
  | .ldAAtBC => Sys2Proof.Machine.execLdAAtBC s
  | .ldAAtDE => Sys2Proof.Machine.execLdAAtDE s
  | .ldAAtNN nn => Sys2Proof.Machine.execLdAAtNN nn s
  | .ldAtBCA => Sys2Proof.Machine.execLdAtBCA s
  | .ldAtDEA => Sys2Proof.Machine.execLdAtDEA s
  | .ldAtNNA nn => Sys2Proof.Machine.execLdAtNNA nn s
  | .ldAI => Sys2Proof.Machine.execLdAI s
  | .ldAR => Sys2Proof.Machine.execLdAR s
  | .ldIA => Sys2Proof.Machine.execLdIA s
  | .ldRA => Sys2Proof.Machine.execLdRA s
  -- 16-bit loads, PUSH and POP (41_load16.md)
  | .ldPairImm p nn => Sys2Proof.Machine.execLdPairImm p nn s
  | .ldIXImm nn => Sys2Proof.Machine.execLdIXImm nn s
  | .ldIYImm nn => Sys2Proof.Machine.execLdIYImm nn s
  | .ldHLAtNN nn => Sys2Proof.Machine.execLdHLAtNN nn s
  | .ldPairAtNN p nn => Sys2Proof.Machine.execLdPairAtNN p nn s
  | .ldIXAtNN nn => Sys2Proof.Machine.execLdIXAtNN nn s
  | .ldIYAtNN nn => Sys2Proof.Machine.execLdIYAtNN nn s
  | .ldAtNNHL nn => Sys2Proof.Machine.execLdAtNNHL nn s
  | .ldAtNNPair nn p => Sys2Proof.Machine.execLdAtNNPair nn p s
  | .ldAtNNIX nn => Sys2Proof.Machine.execLdAtNNIX nn s
  | .ldAtNNIY nn => Sys2Proof.Machine.execLdAtNNIY nn s
  | .ldSPHL => Sys2Proof.Machine.execLdSPHL s
  | .ldSPIX => Sys2Proof.Machine.execLdSPIX s
  | .ldSPIY => Sys2Proof.Machine.execLdSPIY s
  | .pushPair q => Sys2Proof.Machine.execPushPair q s
  | .pushIX => Sys2Proof.Machine.execPushIX s
  | .pushIY => Sys2Proof.Machine.execPushIY s
  | .popPair q => Sys2Proof.Machine.execPopPair q s
  | .popIX => Sys2Proof.Machine.execPopIX s
  | .popIY => Sys2Proof.Machine.execPopIY s
  -- Exchange, block transfer, block search (42_exchange_block.md)
  | .exDEHL => Sys2Proof.Machine.execExDEHL s
  | .exAFAF => Sys2Proof.Machine.execExAFAF s
  | .exx => Sys2Proof.Machine.execExx s
  | .exAtSPHL => Sys2Proof.Machine.execExAtSPHL s
  | .exAtSPIX => Sys2Proof.Machine.execExAtSPIX s
  | .exAtSPIY => Sys2Proof.Machine.execExAtSPIY s
  | .ldi => Sys2Proof.Machine.execLdi s
  | .ldir => Sys2Proof.Machine.execLdir s
  | .ldd => Sys2Proof.Machine.execLdd s
  | .lddr => Sys2Proof.Machine.execLddr s
  | .cpi => Sys2Proof.Machine.execCpi s
  | .cpir => Sys2Proof.Machine.execCpir s
  | .cpd => Sys2Proof.Machine.execCpd s
  | .cpdr => Sys2Proof.Machine.execCpdr s
  -- 8-bit arithmetic and logic (43_alu8.md)
  | .addReg r => Sys2Proof.Machine.execAddReg r s
  | .addImm n => Sys2Proof.Machine.execAddImm n s
  | .addAtHL => Sys2Proof.Machine.execAddAtHL s
  | .addAtIX d => Sys2Proof.Machine.execAddAtIX d s
  | .addAtIY d => Sys2Proof.Machine.execAddAtIY d s
  | .adcReg r => Sys2Proof.Machine.execAdcReg r s
  | .adcImm n => Sys2Proof.Machine.execAdcImm n s
  | .adcAtHL => Sys2Proof.Machine.execAdcAtHL s
  | .adcAtIX d => Sys2Proof.Machine.execAdcAtIX d s
  | .adcAtIY d => Sys2Proof.Machine.execAdcAtIY d s
  | .subReg r => Sys2Proof.Machine.execSubReg r s
  | .subImm n => Sys2Proof.Machine.execSubImm n s
  | .subAtHL => Sys2Proof.Machine.execSubAtHL s
  | .subAtIX d => Sys2Proof.Machine.execSubAtIX d s
  | .subAtIY d => Sys2Proof.Machine.execSubAtIY d s
  | .sbcReg r => Sys2Proof.Machine.execSbcReg r s
  | .sbcImm n => Sys2Proof.Machine.execSbcImm n s
  | .sbcAtHL => Sys2Proof.Machine.execSbcAtHL s
  | .sbcAtIX d => Sys2Proof.Machine.execSbcAtIX d s
  | .sbcAtIY d => Sys2Proof.Machine.execSbcAtIY d s
  | .andReg r => Sys2Proof.Machine.execAndReg r s
  | .andImm n => Sys2Proof.Machine.execAndImm n s
  | .andAtHL => Sys2Proof.Machine.execAndAtHL s
  | .andAtIX d => Sys2Proof.Machine.execAndAtIX d s
  | .andAtIY d => Sys2Proof.Machine.execAndAtIY d s
  | .orReg r => Sys2Proof.Machine.execOrReg r s
  | .orImm n => Sys2Proof.Machine.execOrImm n s
  | .orAtHL => Sys2Proof.Machine.execOrAtHL s
  | .orAtIX d => Sys2Proof.Machine.execOrAtIX d s
  | .orAtIY d => Sys2Proof.Machine.execOrAtIY d s
  | .xorReg r => Sys2Proof.Machine.execXorReg r s
  | .xorImm n => Sys2Proof.Machine.execXorImm n s
  | .xorAtHL => Sys2Proof.Machine.execXorAtHL s
  | .xorAtIX d => Sys2Proof.Machine.execXorAtIX d s
  | .xorAtIY d => Sys2Proof.Machine.execXorAtIY d s
  | .cpReg r => Sys2Proof.Machine.execCpReg r s
  | .cpImm n => Sys2Proof.Machine.execCpImm n s
  | .cpAtHL => Sys2Proof.Machine.execCpAtHL s
  | .cpAtIX d => Sys2Proof.Machine.execCpAtIX d s
  | .cpAtIY d => Sys2Proof.Machine.execCpAtIY d s
  | .incReg r => Sys2Proof.Machine.execIncReg r s
  | .incAtHL => Sys2Proof.Machine.execIncAtHL s
  | .incAtIX d => Sys2Proof.Machine.execIncAtIX d s
  | .incAtIY d => Sys2Proof.Machine.execIncAtIY d s
  | .decReg r => Sys2Proof.Machine.execDecReg r s
  | .decAtHL => Sys2Proof.Machine.execDecAtHL s
  | .decAtIX d => Sys2Proof.Machine.execDecAtIX d s
  | .decAtIY d => Sys2Proof.Machine.execDecAtIY d s
  -- General arithmetic and CPU control (44_general_cpu_control.md)
  | .daa => Sys2Proof.Machine.execDaa s
  | .cpl => Sys2Proof.Machine.execCpl s
  | .neg => Sys2Proof.Machine.execNeg s
  | .ccf => Sys2Proof.Machine.execCcf s
  | .scf => Sys2Proof.Machine.execScf s
  | .nop => Sys2Proof.Machine.execNop s
  | .halt => Sys2Proof.Machine.execHalt s
  | .di => Sys2Proof.Machine.execDi s
  | .ei => Sys2Proof.Machine.execEi s
  | .im0 => Sys2Proof.Machine.execIm0 s
  | .im1 => Sys2Proof.Machine.execIm1 s
  | .im2 => Sys2Proof.Machine.execIm2 s
  -- 16-bit arithmetic (45_arith16.md)
  | .addHLPair p => Sys2Proof.Machine.execAddHLPair p s
  | .adcHLPair p => Sys2Proof.Machine.execAdcHLPair p s
  | .sbcHLPair p => Sys2Proof.Machine.execSbcHLPair p s
  | .addIXPair p => Sys2Proof.Machine.execAddIXPair p s
  | .addIYPair p => Sys2Proof.Machine.execAddIYPair p s
  | .incPair p => Sys2Proof.Machine.execIncPair p s
  | .incIX => Sys2Proof.Machine.execIncIX s
  | .incIY => Sys2Proof.Machine.execIncIY s
  | .decPair p => Sys2Proof.Machine.execDecPair p s
  | .decIX => Sys2Proof.Machine.execDecIX s
  | .decIY => Sys2Proof.Machine.execDecIY s
  -- Rotate and shift (46_rotate_shift.md)
  | .rlca => Sys2Proof.Machine.execRlca s
  | .rla => Sys2Proof.Machine.execRla s
  | .rrca => Sys2Proof.Machine.execRrca s
  | .rra => Sys2Proof.Machine.execRra s
  | .rlcReg r => Sys2Proof.Machine.execRlcReg r s
  | .rlcAtHL => Sys2Proof.Machine.execRlcAtHL s
  | .rlcAtIX d => Sys2Proof.Machine.execRlcAtIX d s
  | .rlcAtIY d => Sys2Proof.Machine.execRlcAtIY d s
  | .rlReg r => Sys2Proof.Machine.execRlReg r s
  | .rlAtHL => Sys2Proof.Machine.execRlAtHL s
  | .rlAtIX d => Sys2Proof.Machine.execRlAtIX d s
  | .rlAtIY d => Sys2Proof.Machine.execRlAtIY d s
  | .rrcReg r => Sys2Proof.Machine.execRrcReg r s
  | .rrcAtHL => Sys2Proof.Machine.execRrcAtHL s
  | .rrcAtIX d => Sys2Proof.Machine.execRrcAtIX d s
  | .rrcAtIY d => Sys2Proof.Machine.execRrcAtIY d s
  | .rrReg r => Sys2Proof.Machine.execRrReg r s
  | .rrAtHL => Sys2Proof.Machine.execRrAtHL s
  | .rrAtIX d => Sys2Proof.Machine.execRrAtIX d s
  | .rrAtIY d => Sys2Proof.Machine.execRrAtIY d s
  | .slaReg r => Sys2Proof.Machine.execSlaReg r s
  | .slaAtHL => Sys2Proof.Machine.execSlaAtHL s
  | .slaAtIX d => Sys2Proof.Machine.execSlaAtIX d s
  | .slaAtIY d => Sys2Proof.Machine.execSlaAtIY d s
  | .sraReg r => Sys2Proof.Machine.execSraReg r s
  | .sraAtHL => Sys2Proof.Machine.execSraAtHL s
  | .sraAtIX d => Sys2Proof.Machine.execSraAtIX d s
  | .sraAtIY d => Sys2Proof.Machine.execSraAtIY d s
  | .srlReg r => Sys2Proof.Machine.execSrlReg r s
  | .srlAtHL => Sys2Proof.Machine.execSrlAtHL s
  | .srlAtIX d => Sys2Proof.Machine.execSrlAtIX d s
  | .srlAtIY d => Sys2Proof.Machine.execSrlAtIY d s
  | .rld => Sys2Proof.Machine.execRld s
  | .rrd => Sys2Proof.Machine.execRrd s
  -- Bit set, reset and test (47_bit.md)
  | .bitReg b r => Sys2Proof.Machine.execBitReg b r s
  | .bitAtHL b => Sys2Proof.Machine.execBitAtHL b s
  | .bitAtIX b d => Sys2Proof.Machine.execBitAtIX b d s
  | .bitAtIY b d => Sys2Proof.Machine.execBitAtIY b d s
  | .setReg b r => Sys2Proof.Machine.execSetReg b r s
  | .setAtHL b => Sys2Proof.Machine.execSetAtHL b s
  | .setAtIX b d => Sys2Proof.Machine.execSetAtIX b d s
  | .setAtIY b d => Sys2Proof.Machine.execSetAtIY b d s
  | .resReg b r => Sys2Proof.Machine.execResReg b r s
  | .resAtHL b => Sys2Proof.Machine.execResAtHL b s
  | .resAtIX b d => Sys2Proof.Machine.execResAtIX b d s
  | .resAtIY b d => Sys2Proof.Machine.execResAtIY b d s
  -- Jumps (48_jump_call_return.md)
  | .jpImm nn => Sys2Proof.Machine.execJpImm nn s
  | .jpCond cc nn => Sys2Proof.Machine.execJpCond cc nn s
  | .jr e => Sys2Proof.Machine.execJr e s
  | .jrC e => Sys2Proof.Machine.execJrC e s
  | .jrNC e => Sys2Proof.Machine.execJrNC e s
  | .jrZ e => Sys2Proof.Machine.execJrZ e s
  | .jrNZ e => Sys2Proof.Machine.execJrNZ e s
  | .jpHL => Sys2Proof.Machine.execJpHL s
  | .jpIX => Sys2Proof.Machine.execJpIX s
  | .jpIY => Sys2Proof.Machine.execJpIY s
  | .djnz e => Sys2Proof.Machine.execDjnz e s
  -- Call and return (48_jump_call_return.md)
  | .callImm nn => Sys2Proof.Machine.execCallImm nn s
  | .callCond cc nn => Sys2Proof.Machine.execCallCond cc nn s
  | .ret => Sys2Proof.Machine.execRet s
  | .retCond cc => Sys2Proof.Machine.execRetCond cc s
  | .reti => Sys2Proof.Machine.execReti s
  | .retn => Sys2Proof.Machine.execRetn s
  | .rst p => Sys2Proof.Machine.execRst p s
  -- Input and output (49_io.md)
  | .inAImm n => Sys2Proof.Machine.execInAImm n s
  | .inRegC r => Sys2Proof.Machine.execInRegC r s
  | .ini => Sys2Proof.Machine.execIni s
  | .inir => Sys2Proof.Machine.execInir s
  | .ind => Sys2Proof.Machine.execInd s
  | .indr => Sys2Proof.Machine.execIndr s
  | .outImmA n => Sys2Proof.Machine.execOutImmA n s
  | .outCReg r => Sys2Proof.Machine.execOutCReg r s
  | .outi => Sys2Proof.Machine.execOuti s
  | .otir => Sys2Proof.Machine.execOtir s
  | .outd => Sys2Proof.Machine.execOutd s
  | .otdr => Sys2Proof.Machine.execOtdr s

end Sys2Proof.Machine
end

