-- ==== Sys2Proof/Machine/Fetch.lean ====
section
/-!
DEFINITION. Fetching an instruction's bytes at PC (R62, R74 of 20_memory.md, R103 of 30_encoding.md), and placing
bytes where the step fetches them.
-/

namespace Sys2Proof.Machine

/-- The bytes at `n` addresses from `addr` on, read in address order (R67, R74 of 20_memory.md). -/
def State.fetchBytes : Nat → Word → State → List Byte × State
  | 0, _, s => ([], s)
  | n + 1, addr, s =>
    let v := s.read8 addr
    let more := State.fetchBytes n (addr + 1) v.2
    (v.1 :: more.1, more.2)

/-- The bytes of the instruction at PC, with its one or two opcode fetches counted in R
(R35 of 10_state.md, R103 of 30_encoding.md; log entry 18). -/
def State.fetch (s : State) : List Byte × State :=
  let b0 := s.read8 s.pc
  if opensPage b0.1 then
    let b1 := b0.2.read8 (s.pc + 1)
    let more := b1.2.fetchBytes (bytesAfterPage b0.1 b1.1) (s.pc + 2)
    (b0.1 :: b1.1 :: more.1, more.2.countFetches 2)
  else
    let more := b0.2.fetchBytes (operandBytes b0.1) (s.pc + 1)
    (b0.1 :: more.1, more.2.countFetches 1)

/-- What stands at PC, and the state in which it is executed: fetched, the EI shadow cleared (R422 of
60_exceptions.md). -/
def State.fetchInstr (s : State) : Decoded × State :=
  let p := State.fetch { s with eiShadow := false }
  (decode p.1, p.2)

/-- Bytes put into memory from an address on. -/
def State.placeBytes : List Byte → Word → State → State
  | [], _, s => s
  | v :: rest, addr, s => State.placeBytes rest (addr + 1) { s with mem := s.mem.write addr.toNat v }

/-- A memory map in which a read of an address gives the contents of memory. -/
def readableAt (addr : Word) (m : List Region) : List Region :=
  match memKind addr m with
  | .ram | .rom => m
  | .absent | .device => { base := addr.toNat, size := 1, kind := .ram } :: m

/-- Inputs that let the next step be an instruction: a boundary with nothing asserted, put first if need be. -/
def quietFirst (inputs : List Inputs) : List Inputs :=
  match inputs with
  | [] => []
  | x :: rest => if x.reset || x.nmiEdge || x.intLine then Inputs.quiet :: x :: rest else x :: rest

/-- The state whose next step fetches at PC from memory: not halted, nothing pending or asserted, and the four
bytes from PC on readable. Nothing changes where that is so already (log entry 14). -/
def State.readyToFetch (s : State) : State :=
  { s with
    halted := false
    nmiPending := false
    inputs := quietFirst s.inputs
    memMap := readableAt s.pc (readableAt (s.pc + 1) (readableAt (s.pc + 2) (readableAt (s.pc + 3) s.memMap))) }

end Sys2Proof.Machine
end

