-- ==== Sys2Proof/Machine/Step.lean ====
section
/-! DEFINITION. One step of the machine (R422 of 60_exceptions.md). -/

namespace Sys2Proof.Machine

/-- One step: the environment's inputs are sampled, then one event in the order of R422 happens: reset, NMI,
INT, a halted tick, or the instruction at PC. A reserved encoding is refused (R109; log entry 11). -/
def step (s : State) : Host.Outcome State Fault Refusal :=
  let t := s.sample
  match t.stepKind with
  | .reset => .next t.resetCpu
  | .nmi => .next t.acceptNmi
  | .int => t.acceptInt
  | .haltedTick => .next (t.countFetches 1)
  | .instruction =>
    match t.fetchInstr with
    | (.ok i _, u) => exec i u
    | (.reject why, _) => .refused (.reservedEncoding why)

/-- The state with an opcode-table word's bytes where `step` fetches its next instruction, and ready to fetch it
(log entry 14). -/
def State.withFetchWord (s : State) (nbits w : Nat) : State :=
  s.readyToFetch.placeBytes (tableBytes nbits w) s.pc

end Sys2Proof.Machine
end

