-- ==== Sys2Proof/Safety.lean ====
section
/-!
DEFINITION. The terms in which claims about the machine are stated: the pieces of the state and what leaves them
unchanged, the operand forms of the rules as tables of constructors, the outcome of an arithmetic
operation said with whole numbers, the bit movements of the rotates, the invariants of the state, and the end of a
run. The machine does not use this file.
-/

namespace Sys2Proof.Machine

/-! ## The pieces of the state, and frames -/

/-- The byte that memory holds at an address: the model's read of one byte (R60 of 20_memory.md). -/
def State.byteAt (a : Word) (s : State) : Byte := Memory.read a.toNat s.mem

/-- The pieces of the state (10_state.md, "The one agent"), and after them the platform's map, the environment
and the model's counter of free values. -/
inductive Piece where
  | reg (r : Reg8)
  | f
  | altA | altF | altB | altC | altD | altE | altH | altL
  | ix | iy | sp | pc
  | i | r
  | iff1 | iff2 | im
  | halted | eiShadow | nmiPending
  | byte (a : Word)
  | memMap
  | now | inputs
  | trace
  | draws
deriving DecidableEq, Repr

/-- A piece is the same in two states. -/
def Piece.same : Piece → State → State → Prop
  | .reg q, s, t => t.reg8 q = s.reg8 q
  | .f, s, t => t.f = s.f
  | .altA, s, t => t.a' = s.a'
  | .altF, s, t => t.f' = s.f'
  | .altB, s, t => t.b' = s.b'
  | .altC, s, t => t.c' = s.c'
  | .altD, s, t => t.d' = s.d'
  | .altE, s, t => t.e' = s.e'
  | .altH, s, t => t.h' = s.h'
  | .altL, s, t => t.l' = s.l'
  | .ix, s, t => t.ix = s.ix
  | .iy, s, t => t.iy = s.iy
  | .sp, s, t => t.sp = s.sp
  | .pc, s, t => t.pc = s.pc
  | .i, s, t => t.i = s.i
  | .r, s, t => t.r = s.r
  | .iff1, s, t => t.iff1 = s.iff1
  | .iff2, s, t => t.iff2 = s.iff2
  | .im, s, t => t.im = s.im
  | .halted, s, t => t.halted = s.halted
  | .eiShadow, s, t => t.eiShadow = s.eiShadow
  | .nmiPending, s, t => t.nmiPending = s.nmiPending
  | .byte a, s, t => t.byteAt a = s.byteAt a
  | .memMap, s, t => t.memMap = s.memMap
  | .now, s, t => t.now = s.now
  | .inputs, s, t => t.inputs = s.inputs
  | .trace, s, t => t.trace = s.trace
  | .draws, s, t => t.draws = s.draws

/-- Every piece that is not listed, every byte of memory among them, is the same in `t` as in `s`. -/
def changesOnly (pieces : List Piece) (s t : State) : Prop := ∀ p, p ∉ pieces → p.same s t

/-! ## What a memory access leaves behind -/

/-- Memory at `a` after a write of `v` there: `v` where `a` is RAM, else as before (R60 of 20_memory.md). -/
def landed (a : Word) (v : Byte) (s t : State) : Prop :=
  t.byteAt a = if s.kindAt a = .ram then v else s.byteAt a

/-- What a read of `a` adds to the trace after the accesses `past` (R76 of 20_memory.md). -/
def readEventsAfter (past : List BusEvent) (a : Word) (s : State) : List BusEvent :=
  if s.kindAt a = .device then [.memRead a (Config.deviceRead a past)] else []

/-- What a read of `a` adds to the trace (R76 of 20_memory.md). -/
def readEvents (a : Word) (s : State) : List BusEvent := readEventsAfter s.trace a s

/-- What the read of a 16-bit item adds to the trace after the accesses `past`: the read of `a`, then the read of
`a + 1` (R61, R67 of 20_memory.md). -/
def wordReadEventsAfter (past : List BusEvent) (a : Word) (s : State) : List BusEvent :=
  readEventsAfter past a s ++ readEventsAfter (past ++ readEventsAfter past a s) (a + 1) s

/-- What the read of a 16-bit item adds to the trace (R61, R67 of 20_memory.md). -/
def wordReadEvents (a : Word) (s : State) : List BusEvent := wordReadEventsAfter s.trace a s

/-- The 16-bit item at `a`: the low byte is read at `a`, and after it the high byte at `a + 1` (R61, R67 of
20_memory.md). -/
def wordReadAt (a : Word) (s : State) : Word := joinBytes ((s.read8 a).2.read8 (a + 1)).1 (s.read8 a).1

/-- What a write of `v` at `a` adds to the trace (R76 of 20_memory.md). -/
def writeEvents (a : Word) (v : Byte) (s : State) : List BusEvent :=
  if s.kindAt a = .device then [.memWrite a v] else []

/-- A read of `a` gives the contents of memory. -/
def State.readable (a : Word) (s : State) : Prop := s.kindAt a = .ram ∨ s.kindAt a = .rom

/-- R after `n` opcode fetches: the low seven bits have counted, bit 7 has not changed (R35 of 10_state.md). -/
def refreshed (n : Nat) (s t : State) : Prop :=
  t.r.toNat % 128 = (s.r.toNat + n) % 128 ∧ t.r.getLsbD 7 = s.r.getLsbD 7

/-! ## Operand forms -/

/-- The source operand `s` of the 8-bit group: r, n, (HL), (IX+d), (IY+d) (R220 of 43_alu8.md). -/
inductive Source where
  | reg (r : Reg8)
  | imm (n : Byte)
  | atHL
  | atIX (d : Byte)
  | atIY (d : Byte)
deriving DecidableEq, Repr

/-- The operand `m`: r, (HL), (IX+d), (IY+d) (R237 of 43_alu8.md, R316 of 46_rotate_shift.md). -/
inductive Place where
  | reg (r : Reg8)
  | atHL
  | atIX (d : Byte)
  | atIY (d : Byte)
deriving DecidableEq, Repr

/-- A place as a source. -/
def Place.source : Place → Source
  | .reg r => .reg r
  | .atHL => .atHL
  | .atIX d => .atIX d
  | .atIY d => .atIY d

/-- The address of a memory operand. -/
def Source.addr? : Source → State → Option Word
  | .reg _, _ => none
  | .imm _, _ => none
  | .atHL, s => some s.hl
  | .atIX d, s => some (s.addrIX d)
  | .atIY d, s => some (s.addrIY d)

/-- The value of a source operand. -/
def Source.value : Source → State → Byte
  | .reg r, s => s.reg8 r
  | .imm n, _ => n
  | .atHL, s => (s.read8 s.hl).1
  | .atIX d, s => (s.read8 (s.addrIX d)).1
  | .atIY d, s => (s.read8 (s.addrIY d)).1

/-- What reading a source operand adds to the trace. -/
def Source.events (x : Source) (s : State) : List BusEvent :=
  match x.addr? s with
  | some a => readEvents a s
  | none => []

/-- The pieces that reading a source operand may change: for a memory operand the trace and the counter of free
values, for the others none. -/
def Source.touches : Source → List Piece
  | .reg _ => []
  | .imm _ => []
  | .atHL => [.trace, .draws]
  | .atIX _ => [.trace, .draws]
  | .atIY _ => [.trace, .draws]

/-- The pieces that writing a place changes: the register, or the byte at the operand's address and the trace. -/
def Place.target : Place → State → List Piece
  | .reg r, _ => [.reg r]
  | .atHL, s => [.byte s.hl, .trace, .draws]
  | .atIX d, s => [.byte (s.addrIX d), .trace, .draws]
  | .atIY d, s => [.byte (s.addrIY d), .trace, .draws]

/-- A place holds a value after a write to it. -/
def Place.holds : Place → Byte → State → State → Prop
  | .reg r, v, _, t => t.reg8 r = v
  | .atHL, v, s, t => landed s.hl v s t
  | .atIX d, v, s, t => landed (s.addrIX d) v s t
  | .atIY d, v, s, t => landed (s.addrIY d) v s t

/-- What one read and then one write of a place add to the trace (R66 of 20_memory.md). -/
def Place.events (m : Place) (v : Byte) (s : State) : List BusEvent :=
  match m.source.addr? s with
  | some a => readEvents a s ++ writeEvents a v s
  | none => []

/-- A 16-bit register or pair that an instruction loads (R93, R94 of 30_encoding.md, R23 of 10_state.md). -/
inductive WordReg where
  | dd (p : PairDD)
  | qq (q : PairQQ)
  | ix
  | iy
deriving DecidableEq, Repr

/-- The value of a 16-bit register or pair. -/
def WordReg.value : WordReg → State → Word
  | .dd p, s => s.pairDD p
  | .qq q, s => s.pairQQ q
  | .ix, s => s.ix
  | .iy, s => s.iy

/-- The pieces that a 16-bit register or pair is made of (R21 of 10_state.md). -/
def WordReg.pieces : WordReg → List Piece
  | .dd .bc => [.reg .b, .reg .c]
  | .dd .de => [.reg .d, .reg .e]
  | .dd .hl => [.reg .h, .reg .l]
  | .dd .sp => [.sp]
  | .qq .bc => [.reg .b, .reg .c]
  | .qq .de => [.reg .d, .reg .e]
  | .qq .hl => [.reg .h, .reg .l]
  | .qq .af => [.reg .a, .f]
  | .ix => [.ix]
  | .iy => [.iy]

/-- A condition, read from the bits of F (R26 of 10_state.md, R96 of 30_encoding.md). -/
def conditionMet : Cond → State → Bool
  | .nz, s => s.f.getLsbD 6 == false
  | .z, s => s.f.getLsbD 6 == true
  | .nc, s => s.f.getLsbD 0 == false
  | .c, s => s.f.getLsbD 0 == true
  | .po, s => s.f.getLsbD 2 == false
  | .pe, s => s.f.getLsbD 2 == true
  | .p, s => s.f.getLsbD 7 == false
  | .m, s => s.f.getLsbD 7 == true

/-- The eight operations of the 8-bit group on A (R113 of 30_encoding.md). -/
inductive AluOp where
  | add | adc | sub | sbc | and | or | xor | cp
deriving DecidableEq, Repr

/-- The instruction of an operation and a source operand. -/
def AluOp.instr : AluOp → Source → Instr
  | .add, .reg r => .addReg r
  | .add, .imm n => .addImm n
  | .add, .atHL => .addAtHL
  | .add, .atIX d => .addAtIX d
  | .add, .atIY d => .addAtIY d
  | .adc, .reg r => .adcReg r
  | .adc, .imm n => .adcImm n
  | .adc, .atHL => .adcAtHL
  | .adc, .atIX d => .adcAtIX d
  | .adc, .atIY d => .adcAtIY d
  | .sub, .reg r => .subReg r
  | .sub, .imm n => .subImm n
  | .sub, .atHL => .subAtHL
  | .sub, .atIX d => .subAtIX d
  | .sub, .atIY d => .subAtIY d
  | .sbc, .reg r => .sbcReg r
  | .sbc, .imm n => .sbcImm n
  | .sbc, .atHL => .sbcAtHL
  | .sbc, .atIX d => .sbcAtIX d
  | .sbc, .atIY d => .sbcAtIY d
  | .and, .reg r => .andReg r
  | .and, .imm n => .andImm n
  | .and, .atHL => .andAtHL
  | .and, .atIX d => .andAtIX d
  | .and, .atIY d => .andAtIY d
  | .or, .reg r => .orReg r
  | .or, .imm n => .orImm n
  | .or, .atHL => .orAtHL
  | .or, .atIX d => .orAtIX d
  | .or, .atIY d => .orAtIY d
  | .xor, .reg r => .xorReg r
  | .xor, .imm n => .xorImm n
  | .xor, .atHL => .xorAtHL
  | .xor, .atIX d => .xorAtIX d
  | .xor, .atIY d => .xorAtIY d
  | .cp, .reg r => .cpReg r
  | .cp, .imm n => .cpImm n
  | .cp, .atHL => .cpAtHL
  | .cp, .atIX d => .cpAtIX d
  | .cp, .atIY d => .cpAtIY d

/-- `LD r,s`: the instruction of a destination register and a source operand (R130 to R134 of 40_load8.md). -/
def loadInstr (r : Reg8) : Source → Instr
  | .reg r' => .ldRegReg r r'
  | .imm n => .ldRegImm r n
  | .atHL => .ldRegAtHL r
  | .atIX d => .ldRegAtIX r d
  | .atIY d => .ldRegAtIY r d

/-- `INC m` (R233 to R236 of 43_alu8.md). -/
def incInstr : Place → Instr
  | .reg r => .incReg r
  | .atHL => .incAtHL
  | .atIX d => .incAtIX d
  | .atIY d => .incAtIY d

/-- `DEC m` (R237 of 43_alu8.md). -/
def decInstr : Place → Instr
  | .reg r => .decReg r
  | .atHL => .decAtHL
  | .atIX d => .decAtIX d
  | .atIY d => .decAtIY d

/-- `BIT b,m` (R330 to R333 of 47_bit.md). -/
def bitInstr (b : Nat) : Place → Instr
  | .reg r => .bitReg b r
  | .atHL => .bitAtHL b
  | .atIX d => .bitAtIX b d
  | .atIY d => .bitAtIY b d

/-- `SET b,m` (R334 to R337 of 47_bit.md). -/
def setInstr (b : Nat) : Place → Instr
  | .reg r => .setReg b r
  | .atHL => .setAtHL b
  | .atIX d => .setAtIX b d
  | .atIY d => .setAtIY b d

/-- `RES b,m` (R338 of 47_bit.md). -/
def resInstr (b : Nat) : Place → Instr
  | .reg r => .resReg b r
  | .atHL => .resAtHL b
  | .atIX d => .resAtIX b d
  | .atIY d => .resAtIY b d

/-- The seven rotates and shifts (R114 of 30_encoding.md). -/
inductive RotOp where
  | rlc | rl | rrc | rr | sla | sra | srl
deriving DecidableEq, Repr

/-- The CB-page instruction of a rotate or shift and a place (R304 to R313 of 46_rotate_shift.md). -/
def RotOp.instr : RotOp → Place → Instr
  | .rlc, .reg r => .rlcReg r
  | .rlc, .atHL => .rlcAtHL
  | .rlc, .atIX d => .rlcAtIX d
  | .rlc, .atIY d => .rlcAtIY d
  | .rl, .reg r => .rlReg r
  | .rl, .atHL => .rlAtHL
  | .rl, .atIX d => .rlAtIX d
  | .rl, .atIY d => .rlAtIY d
  | .rrc, .reg r => .rrcReg r
  | .rrc, .atHL => .rrcAtHL
  | .rrc, .atIX d => .rrcAtIX d
  | .rrc, .atIY d => .rrcAtIY d
  | .rr, .reg r => .rrReg r
  | .rr, .atHL => .rrAtHL
  | .rr, .atIX d => .rrAtIX d
  | .rr, .atIY d => .rrAtIY d
  | .sla, .reg r => .slaReg r
  | .sla, .atHL => .slaAtHL
  | .sla, .atIX d => .slaAtIX d
  | .sla, .atIY d => .slaAtIY d
  | .sra, .reg r => .sraReg r
  | .sra, .atHL => .sraAtHL
  | .sra, .atIX d => .sraAtIX d
  | .sra, .atIY d => .sraAtIY d
  | .srl, .reg r => .srlReg r
  | .srl, .atHL => .srlAtHL
  | .srl, .atIX d => .srlAtIX d
  | .srl, .atIY d => .srlAtIY d

/-- Bit `k` of the result of a rotate or shift of `v`, `cy` being the old carry (R316(b) of 46_rotate_shift.md). -/
def RotOp.bit (cy : Bool) (v : Byte) : RotOp → Nat → Bool
  | .rlc, k => v.getLsbD ((k + 7) % 8)
  | .rl, k => if k = 0 then cy else v.getLsbD (k - 1)
  | .rrc, k => v.getLsbD ((k + 1) % 8)
  | .rr, k => if k = 7 then cy else v.getLsbD (k + 1)
  | .sla, k => if k = 0 then false else v.getLsbD (k - 1)
  | .sra, k => if k = 7 then v.getLsbD 7 else v.getLsbD (k + 1)
  | .srl, k => if k = 7 then false else v.getLsbD (k + 1)

/-- The bit that a rotate or shift moves into C (R316(b) of 46_rotate_shift.md). -/
def RotOp.carryOut (v : Byte) : RotOp → Bool
  | .rlc => v.getLsbD 7
  | .rl => v.getLsbD 7
  | .rrc => v.getLsbD 0
  | .rr => v.getLsbD 0
  | .sla => v.getLsbD 7
  | .sra => v.getLsbD 0
  | .srl => v.getLsbD 0

/-- A byte is the result of a rotate or shift. -/
def RotOp.gives (op : RotOp) (cy : Bool) (v res : Byte) : Prop := ∀ k < 8, res.getLsbD k = op.bit cy v k

/-! ## Flags, said with whole numbers (R7 of 00_scope.md) -/

/-- The number of 1 bits of a byte is even. -/
def evenParity (v : Byte) : Bool := (List.range 8).countP (fun k => v.getLsbD k) % 2 == 0

/-- S and Z of a byte (R28, R29 of 10_state.md). -/
def signZero (res : Byte) (x : FlagBits) : Prop := (x.s = true ↔ res.toInt < 0) ∧ (x.z = true ↔ res.toNat = 0)

/-- An 8-bit sum with a carry in: the result modulo 256, S, Z, H, V and N = 0 (R7, R238 of 43_alu8.md). C is said
apart, by `addCarry`. -/
def addOutcome (a v : Byte) (cin : Bool) (res : Byte) (x : FlagBits) : Prop :=
  res.toNat = (a.toNat + v.toNat + cin.toNat) % 256 ∧ signZero res x ∧
  (x.h = true ↔ 16 ≤ a.toNat % 16 + v.toNat % 16 + cin.toNat) ∧
  (x.pv = true ↔ a.toInt + v.toInt + cin.toNat < -128 ∨ 127 < a.toInt + v.toInt + cin.toNat) ∧
  x.n = false

/-- C of an 8-bit sum: a carry out of bit 7. -/
def addCarry (a v : Byte) (cin : Bool) (x : FlagBits) : Prop := (x.c = true ↔ 256 ≤ a.toNat + v.toNat + cin.toNat)

/-- An 8-bit difference with a borrow in: the result modulo 256, S, Z, H, V and N = 1 (R7, R238 of 43_alu8.md).
C is said apart, by `subCarry`. -/
def subOutcome (a v : Byte) (cin : Bool) (res : Byte) (x : FlagBits) : Prop :=
  (res.toNat : Int) = ((a.toNat : Int) - v.toNat - cin.toNat) % 256 ∧ signZero res x ∧
  (x.h = true ↔ a.toNat % 16 < v.toNat % 16 + cin.toNat) ∧
  (x.pv = true ↔ a.toInt - v.toInt - cin.toNat < -128 ∨ 127 < a.toInt - v.toInt - cin.toNat) ∧
  x.n = true

/-- C of an 8-bit difference: a borrow out of bit 7. -/
def subCarry (a v : Byte) (cin : Bool) (x : FlagBits) : Prop := (x.c = true ↔ a.toNat < v.toNat + cin.toNat)

/-- The flags of a byte that is no arithmetic result: S, Z, P/V its parity, N = 0. -/
def parityOutcome (res : Byte) (x : FlagBits) : Prop :=
  signZero res x ∧ x.pv = evenParity res ∧ x.n = false

/-- The decimal value of a packed-BCD byte. -/
def bcdValue (v : Byte) : Nat := v.toNat / 16 * 10 + v.toNat % 16

/-- Both nibbles are decimal digits. -/
def isBcd (v : Byte) : Prop := v.toNat / 16 < 10 ∧ v.toNat % 16 < 10

/-! ## Instructions of one kind -/

/-- The instructions that write PC themselves: jumps, calls, returns, restarts, and the repeating block
instructions (R25 of 10_state.md, R204 of 42_exchange_block.md). -/
def transfersControl : Instr → Bool
  | .jpImm _ | .jpCond _ _ | .jr _ | .jrC _ | .jrNC _ | .jrZ _ | .jrNZ _ | .jpHL | .jpIX | .jpIY | .djnz _
  | .callImm _ | .callCond _ _ | .ret | .retCond _ | .reti | .retn | .rst _
  | .ldir | .lddr | .cpir | .cpdr | .inir | .indr | .otir | .otdr => true
  | _ => false

/-- The twelve input and output instructions (49_io.md). -/
def isIo : Instr → Bool
  | .inAImm _ | .inRegC _ | .ini | .inir | .ind | .indr | .outImmA _ | .outCReg _ | .outi | .otir | .outd
  | .otdr => true
  | _ => false

/-- The instructions that store to memory (R66 of 20_memory.md). -/
def storesMemory : Instr → Bool
  | .ldAtHLReg _ | .ldAtIXReg _ _ | .ldAtIYReg _ _ | .ldAtHLImm _ | .ldAtIXImm _ _ | .ldAtIYImm _ _
  | .ldAtBCA | .ldAtDEA | .ldAtNNA _ | .ldAtNNHL _ | .ldAtNNPair _ _ | .ldAtNNIX _ | .ldAtNNIY _
  | .pushPair _ | .pushIX | .pushIY | .exAtSPHL | .exAtSPIX | .exAtSPIY | .ldi | .ldir | .ldd | .lddr
  | .incAtHL | .incAtIX _ | .incAtIY _ | .decAtHL | .decAtIX _ | .decAtIY _
  | .rlcAtHL | .rlcAtIX _ | .rlcAtIY _ | .rlAtHL | .rlAtIX _ | .rlAtIY _ | .rrcAtHL | .rrcAtIX _ | .rrcAtIY _
  | .rrAtHL | .rrAtIX _ | .rrAtIY _ | .slaAtHL | .slaAtIX _ | .slaAtIY _ | .sraAtHL | .sraAtIX _ | .sraAtIY _
  | .srlAtHL | .srlAtIX _ | .srlAtIY _ | .rld | .rrd
  | .setAtHL _ | .setAtIX _ _ | .setAtIY _ _ | .resAtHL _ | .resAtIX _ _ | .resAtIY _ _
  | .callImm _ | .callCond _ _ | .rst _ | .ini | .inir | .ind | .indr => true
  | _ => false

/-- The same instruction applied `n` times, if each time gives a next state. -/
def repeatExec (i : Instr) : Nat → State → Option State
  | 0, s => some s
  | n + 1, s =>
    match exec i s with
    | .next t => repeatExec i n t
    | .fault _ => none
    | .refused _ => none

/-! ## The reserved encodings (R109 of 30_encoding.md) -/

/-- The reserved opcodes of page ED, as the table of R109 lists them. -/
def reservedOnED (op : Nat) : Bool :=
  op ≤ 0x3F || (0x7C ≤ op && op ≤ 0x9F) || (0xA4 ≤ op && op ≤ 0xA7) || (0xAC ≤ op && op ≤ 0xAF) ||
    (0xB4 ≤ op && op ≤ 0xB7) || 0xBC ≤ op ||
    [0x4C, 0x4E, 0x54, 0x55, 0x5C, 0x5D, 0x64, 0x65, 0x66, 0x6C, 0x6D, 0x6E, 0x70, 0x71, 0x74, 0x75, 0x76,
      0x77].contains op

/-- The opcodes of pages DD and FD that are not reserved, as the table of R109 lists them. -/
def assignedOnXY (op : Nat) : Bool :=
  [0x09, 0x19, 0x21, 0x22, 0x23, 0x29, 0x2A, 0x2B, 0x34, 0x35, 0x36, 0x39, 0x46, 0x4E, 0x56, 0x5E, 0x66, 0x6E,
    0x70, 0x71, 0x72, 0x73, 0x74, 0x75, 0x77, 0x7E, 0x86, 0x8E, 0x96, 0x9E, 0xA6, 0xAE, 0xB6, 0xBE, 0xCB, 0xE1,
    0xE3, 0xE5, 0xE9, 0xF9].contains op

/-- The first four bytes at PC start a reserved encoding (R109). -/
def reservedBytes (b0 b1 b3 : Byte) : Bool :=
  (b0 == 0xCB && 0x30 ≤ b1.toNat && b1.toNat ≤ 0x37) ||
    (b0 == 0xED && reservedOnED b1.toNat) ||
    ((b0 == 0xDD || b0 == 0xFD) && !assignedOnXY b1.toNat) ||
    ((b0 == 0xDD || b0 == 0xFD) && b1 == 0xCB && (b3.toNat % 8 != 6 || b3 == 0x36))

/-! ## What a step is (R422 of 60_exceptions.md), in the terms of its rule -/

/-- A non-maskable interrupt is pending at the coming boundary, an edge that arrives with it included. -/
def State.nmiDue (s : State) : Bool := s.nmiPending || s.nextInputs.nmiEdge

/-- A maskable interrupt may be accepted at the coming boundary: the line is active, IFF1 = 1, no EI shadow. -/
def State.intDue (s : State) : Bool := s.nextInputs.intLine && s.iff1 && !s.eiShadow

/-- The coming step accepts a non-maskable interrupt. -/
def State.takesNmi (s : State) : Prop := s.nextInputs.reset = false ∧ s.nmiDue = true

/-- The coming step accepts a maskable interrupt. -/
def State.takesInt (s : State) : Prop := s.nextInputs.reset = false ∧ s.nmiDue = false ∧ s.intDue = true

/-- The coming step is a refresh tick of the halted CPU. -/
def State.staysHalted (s : State) : Prop :=
  s.nextInputs.reset = false ∧ s.nmiDue = false ∧ s.intDue = false ∧ s.halted = true

/-- The coming step executes the instruction at PC. -/
def State.runsInstruction (s : State) : Prop :=
  s.nextInputs.reset = false ∧ s.nmiDue = false ∧ s.intDue = false ∧ s.halted = false

/-- The bytes of an instruction stand at PC, each where a read gives the contents of memory. -/
def State.instructionAtPC (i : Instr) (s : State) : Prop :=
  ∀ k < (encode i).length,
    s.readable (s.pc + BitVec.ofNat 16 k) ∧ s.byteAt (s.pc + BitVec.ofNat 16 k) = (encode i).getD k 0

/-! ## Invariants -/

/-- Memory is in its canonical form. -/
def State.memoryCanonical (s : State) : Prop := Memory.wf s.mem = true

/-- What the interrupt logic keeps: IFF1 set only with IFF2; the EI shadow stands only over enabled interrupts and
a running CPU (R39 of 10_state.md, R439 of 60_exceptions.md). -/
def State.interruptsLegal (s : State) : Prop :=
  (s.iff1 = true → s.iff2 = true) ∧
  (s.eiShadow = true → s.iff1 = true ∧ s.iff2 = true ∧ s.halted = false)

/-- No interrupt and no reset can come from the environment any more: nothing is pending or coming but an INT line
that IFF1 = 0 masks. -/
def State.undisturbed (s : State) : Prop :=
  s.nmiPending = false ∧
  ∀ x ∈ s.inputs, x.reset = false ∧ x.nmiEdge = false ∧ (x.intLine = true → s.iff1 = false)

/-- The end of a run (R479 of 70_reset_and_hazards.md). -/
def State.runEnded (s : State) : Prop := s.halted = true ∧ s.undisturbed

/-- A safe step: it is not refused. -/
def State.stepsSafely (s : State) : Prop := ∃ t, step s = .next t

end Sys2Proof.Machine
end

