-- ==== Sys2Proof/Certificates/Slice0/Obligations.lean ====
section
/-!
DEFINITION. The statements for the provers. Each docstring names the rules of spec/ that its statement rests on. A statement
holds for every value of the free values, since it holds for every `draws`; none rests on what a free value is.

Where a statement speaks of the coming inputs (`now`, `inputs`, `nextInputs`), of the observable accesses (`trace`), of the
count of free values (`draws`) or of the memory map (`memMap`), the form is the model's choice: log entries 3, 8, 4 and 6.
-/

open Sys2Proof Sys2Proof.Machine

/-! ## Encoding (30_encoding.md) -/

/-- Decoding the bytes of a well-formed instruction, whatever follows them, gives the instruction back and leaves
what follows (R90 to R108, R113, R114). -/
def Obligations.DecodeOfEncode : Prop :=
  ∀ (i : Instr) (rest : List Byte), i.wellFormed = true → decode (encode i ++ rest) = .ok i rest

/-- What the decoder accepts is well-formed, and the bytes it took are that instruction's encoding (R103: the rows of
one page never overlap). -/
def Obligations.EncodeOfDecode : Prop :=
  ∀ (bytes rest : List Byte) (i : Instr),
    decode bytes = .ok i rest → i.wellFormed = true ∧ bytes = encode i ++ rest

/-- The four bytes at an address are no instruction exactly where the table of R109 says so: base page none, CB
30-37, ED its 198 values, DD and FD all but the listed ones, DDCB and FDCB all but `xxx110` and 36. -/
def Obligations.ReservedEncodings : Prop :=
  ∀ b0 b1 b2 b3 : Byte, (decode [b0, b1, b2, b3]).instr? = none ↔ reservedBytes b0 b1 b3 = true

/-- The bytes that a fetch reads are a whole instruction and nothing more, or a reserved encoding: the length
depends only on the page and the opcode (R103). -/
def Obligations.FetchReadsWholeInstruction : Prop :=
  ∀ s : State,
    (∀ (i : Instr) (rest : List Byte), decode s.fetch.1 = .ok i rest → rest = [] ∧ s.fetch.1 = encode i) ∧
    decode s.fetch.1 ≠ .reject .truncated

/-- A few words written out from the encodings of R104 to R108 decode to the instructions they stand for. -/
def Obligations.SampleWordsDecode : Prop :=
  decode [0b01100011] = .ok (.ldRegReg .h .e) [] ∧
  decode [0b00110001, 0xFE, 0xFF] = .ok (.ldPairImm .sp 0xFFFE) [] ∧
  decode [0xCB, 0b01111110] = .ok (.bitAtHL 7) [] ∧
  decode [0xED, 0b01111011, 0x30, 0x21] = .ok (.ldPairAtNN .sp 0x2130) [] ∧
  decode [0xFD, 0b01111110, 0xFB] = .ok (.ldRegAtIY .a 0xFB) [] ∧
  decode [0xDD, 0b00110110, 0x05, 0x5A] = .ok (.ldAtIXImm 0x05 0x5A) [] ∧
  decode [0xDD, 0xCB, 0x02, 0b00000110] = .ok (.rlcAtIX 0x02) [] ∧
  decode [0b11011111] = .ok (.rst 0x18) [] ∧
  decode [0xED, 0b01110000] = .reject (.reservedED 0x70)

/-! ## The step (R422 of 60_exceptions.md) -/

/-- Where the step executes the instruction at PC, it is `exec` of the decoded instruction in the state after the
fetch, which differs from the state before only in R, the cleared EI shadow, the sampled inputs, and what
fetching from devices and absent addresses leaves; a reserved encoding is refused (R109, R422; log entry 11). That the
boundary's record becomes `now` and leaves the list `inputs` is the model's choice (log entry 3), and when R counts is its
reading (log entry 18). -/
def Obligations.StepRunsDecodedInstruction : Prop :=
  ∀ s : State, s.runsInstruction →
    changesOnly [.r, .eiShadow, .now, .inputs, .trace, .draws] s s.sample.fetchInstr.2 ∧
    s.sample.fetchInstr.2.eiShadow = false ∧
    s.sample.fetchInstr.2.now = s.nextInputs ∧ s.sample.fetchInstr.2.inputs = s.inputs.tail ∧
    (∀ (i : Instr) (rest : List Byte), s.sample.fetchInstr.1 = .ok i rest →
      i.wellFormed = true ∧ step s = exec i s.sample.fetchInstr.2) ∧
    (∀ why : Reject, s.sample.fetchInstr.1 = .reject why → step s = .refused (.reservedEncoding why))

/-- Where the bytes of a well-formed instruction stand at PC in memory, the step is `exec` of that instruction, in a
state that differs from the one before only in R, which has counted the one or two opcode fetches, the
cleared EI shadow and the sampled inputs (R25, R35 of 10_state.md, R62, R74 of 20_memory.md, R103). That the boundary's
record becomes `now` and leaves the list `inputs` is the model's choice (log entry 3), and when R counts is its reading
(log entry 18). -/
def Obligations.StepRunsEncodedInstruction : Prop :=
  ∀ (s : State) (i : Instr), i.wellFormed = true → s.runsInstruction → s.instructionAtPC i →
    ∃ u : State, step s = exec i u ∧
      refreshed (if opensPage ((encode i).getD 0 0) then 2 else 1) s u ∧
      u.eiShadow = false ∧ u.now = s.nextInputs ∧ u.inputs = s.inputs.tail ∧
      changesOnly [.r, .eiShadow, .now, .inputs] s u

/-- A step gives a next state but in two cases: an instruction is to be executed and a reserved encoding stands at PC
(R109), or a maskable interrupt is accepted in mode 0 with a byte that is no restart (R426). No step faults
(R420). -/
def Obligations.StepStopsOnlyWhereRefused : Prop :=
  ∀ s : State,
    (∃ t, step s = .next t) ∨
    (s.runsInstruction ∧ ∃ why, step s = .refused (.reservedEncoding why)) ∨
    (s.takesInt ∧ s.im = .im0 ∧ isRstByte s.nextInputs.busByte = false ∧
      step s = .refused (.mode0NotRst s.nextInputs.busByte))

/-! ## Interrupts, halt and reset (60_exceptions.md, 70_reset_and_hazards.md) -/

/-- The reset line, whatever else is asserted or pending: the registers of R471 have its values, nothing is pushed,
memory, the memory map and the trace are untouched. That the boundary's record becomes `now` and leaves the list `inputs`
is the model's choice (log entry 3), as are the forms of the memory map and the trace (log entries 6 and 8). -/
def Obligations.ResetLine : Prop :=
  ∀ s : State, s.nextInputs.reset = true →
    ∃ t, step s = .next t ∧ t.pc = 0x0000 ∧ t.i = 0x00 ∧ t.r = 0x00 ∧ t.iff1 = false ∧ t.iff2 = false ∧
      t.im = .im0 ∧ t.halted = false ∧ t.eiShadow = false ∧ t.nmiPending = false ∧
      (∀ a : Word, t.byteAt a = s.byteAt a) ∧ t.memMap = s.memMap ∧ t.trace = s.trace ∧
      t.now = s.nextInputs ∧ t.inputs = s.inputs.tail

/-- Acceptance of a non-maskable interrupt (R424), whatever the INT line, IFF1 and the EI shadow are (R423). That
the boundary's record becomes `now` and leaves the list `inputs` is the model's choice (log entry 3), as is the form of
the trace (log entry 8). -/
def Obligations.NmiAcceptance : Prop :=
  ∀ s : State, s.takesNmi →
    ∃ t, step s = .next t ∧ t.pc = 0x0066 ∧ t.sp = s.sp - 2 ∧ t.iff1 = false ∧ t.iff2 = s.iff2 ∧
      t.halted = false ∧ t.eiShadow = false ∧ t.nmiPending = false ∧ refreshed 1 s t ∧
      t.now = s.nextInputs ∧ t.inputs = s.inputs.tail ∧
      landed (s.sp - 1) (hiByte s.pc) s t ∧ landed (s.sp - 2) (loByte s.pc) s t ∧
      t.trace = s.trace ++ writeEvents (s.sp - 1) (hiByte s.pc) s ++ writeEvents (s.sp - 2) (loByte s.pc) s ∧
      changesOnly [.pc, .sp, .iff1, .halted, .eiShadow, .nmiPending, .r, .byte (s.sp - 1), .byte (s.sp - 2),
        .trace, .now, .inputs] s t

/-- Acceptance of a maskable interrupt in mode 0 (R425, R426): a restart byte `11ttt111` pushes PC and enters at
`8 * ttt`; any other byte is refused (log entry 12). That the boundary's record becomes `now` and leaves the list `inputs`
is the model's choice (log entry 3), as is the form of the trace (log entry 8). -/
def Obligations.IntAcceptanceMode0 : Prop :=
  ∀ s : State, s.takesInt → s.im = .im0 →
    (∀ k < 8, s.nextInputs.busByte = BitVec.ofNat 8 (0xC7 + 8 * k) →
      ∃ t, step s = .next t ∧ t.pc = BitVec.ofNat 16 (8 * k) ∧ t.sp = s.sp - 2 ∧
        t.iff1 = false ∧ t.iff2 = false ∧ t.halted = false ∧ refreshed 1 s t ∧
        t.now = s.nextInputs ∧ t.inputs = s.inputs.tail ∧
        landed (s.sp - 1) (hiByte s.pc) s t ∧ landed (s.sp - 2) (loByte s.pc) s t ∧
        t.trace = s.trace ++ writeEvents (s.sp - 1) (hiByte s.pc) s ++ writeEvents (s.sp - 2) (loByte s.pc) s ∧
        changesOnly [.pc, .sp, .iff1, .iff2, .halted, .r, .byte (s.sp - 1), .byte (s.sp - 2), .trace, .now,
          .inputs] s t) ∧
    ((∀ k < 8, s.nextInputs.busByte ≠ BitVec.ofNat 8 (0xC7 + 8 * k)) →
      step s = .refused (.mode0NotRst s.nextInputs.busByte))

/-- Acceptance of a maskable interrupt in mode 1 (R425, R427): PC is pushed and execution goes on at 0038h. That
the boundary's record becomes `now` and leaves the list `inputs` is the model's choice (log entry 3), as is the form of
the trace (log entry 8). -/
def Obligations.IntAcceptanceMode1 : Prop :=
  ∀ s : State, s.takesInt → s.im = .im1 →
    ∃ t, step s = .next t ∧ t.pc = 0x0038 ∧ t.sp = s.sp - 2 ∧
      t.iff1 = false ∧ t.iff2 = false ∧ t.halted = false ∧ refreshed 1 s t ∧
      t.now = s.nextInputs ∧ t.inputs = s.inputs.tail ∧
      landed (s.sp - 1) (hiByte s.pc) s t ∧ landed (s.sp - 2) (loByte s.pc) s t ∧
      t.trace = s.trace ++ writeEvents (s.sp - 1) (hiByte s.pc) s ++ writeEvents (s.sp - 2) (loByte s.pc) s ∧
      changesOnly [.pc, .sp, .iff1, .iff2, .halted, .r, .byte (s.sp - 1), .byte (s.sp - 2), .trace, .now,
        .inputs] s t

/-- Acceptance of a maskable interrupt in mode 2 (R425, R428): PC is pushed, and then the new PC is read at the
pointer `I ++ BusByte`, low byte first (R67), which gives the little-endian word that memory then holds there where a
read of the pointer gives the contents of memory. That the boundary's record becomes `now` and leaves the list `inputs`
is the model's choice (log entry 3), as is the form of the trace (log entry 8). -/
def Obligations.IntAcceptanceMode2 : Prop :=
  ∀ s : State, s.takesInt → s.im = .im2 →
    ∃ t, step s = .next t ∧ t.sp = s.sp - 2 ∧
      t.iff1 = false ∧ t.iff2 = false ∧ t.halted = false ∧ refreshed 1 s t ∧
      t.now = s.nextInputs ∧ t.inputs = s.inputs.tail ∧
      landed (s.sp - 1) (hiByte s.pc) s t ∧ landed (s.sp - 2) (loByte s.pc) s t ∧
      (s.readable (joinBytes s.i s.nextInputs.busByte) → s.readable (joinBytes s.i s.nextInputs.busByte + 1) →
        t.pc = joinBytes (t.byteAt (joinBytes s.i s.nextInputs.busByte + 1))
          (t.byteAt (joinBytes s.i s.nextInputs.busByte)) ∧
        t.trace = s.trace ++ writeEvents (s.sp - 1) (hiByte s.pc) s ++
          writeEvents (s.sp - 2) (loByte s.pc) s) ∧
      (∀ past, past = s.trace ++ writeEvents (s.sp - 1) (hiByte s.pc) s ++ writeEvents (s.sp - 2) (loByte s.pc) s →
        t.trace = past ++ wordReadEventsAfter past (joinBytes s.i s.nextInputs.busByte) s ∧
        ∀ u : State, u.mem = t.mem → u.memMap = s.memMap → u.trace = past → u.draws = s.draws →
          t.pc = wordReadAt (joinBytes s.i s.nextInputs.busByte) u) ∧
      changesOnly [.pc, .sp, .iff1, .iff2, .halted, .r, .byte (s.sp - 1), .byte (s.sp - 2), .trace, .draws, .now,
        .inputs] s t

/-- A halted CPU that nothing reaches only counts in R (R429); and the end of a run is for ever (R479): where no
interrupt or reset can come any more, the state after the tick is the end of a run again. That the boundary's record
becomes `now` and leaves the list `inputs` is the model's choice (log entry 3). -/
def Obligations.HaltedCpu : Prop :=
  ∀ s : State,
    (s.staysHalted → ∃ t, step s = .next t ∧ refreshed 1 s t ∧ t.now = s.nextInputs ∧ t.inputs = s.inputs.tail ∧
      changesOnly [.r, .now, .inputs] s t) ∧
    (s.runEnded → s.staysHalted ∧ ∃ t, step s = .next t ∧ t.runEnded)

/-- The EI shadow (R474, R268): after the step of an EI both flip-flops are set and the next step executes the next
instruction whatever the INT line does; after the step of any other instruction there is no shadow. -/
def Obligations.EiShadow : Prop :=
  ∀ (s t : State) (i : Instr) (rest : List Byte),
    s.runsInstruction → s.sample.fetchInstr.1 = .ok i rest → step s = .next t →
    (i = .ei → t.iff1 = true ∧ t.iff2 = true ∧ t.eiShadow = true ∧
      (t.nextInputs.reset = false → t.nmiDue = false → t.runsInstruction)) ∧
    (i ≠ .ei → t.eiShadow = false)

/-! ## Invariants and rules of the whole machine -/

/-- Every step keeps memory in its canonical form, which is the model's own (log entry 2). -/
def Obligations.StepKeepsMemoryCanonical : Prop :=
  ∀ s t : State, s.memoryCanonical → step s = .next t → t.memoryCanonical

/-- Every step keeps the interrupt logic legal: IFF1 only with IFF2, the EI shadow only over enabled interrupts and a
running CPU (R39, R439). -/
def Obligations.StepKeepsInterruptsLegal : Prop :=
  ∀ s t : State, s.interruptsLegal → step s = .next t → t.interruptsLegal

/-- The reset state has the values that R41 gives, and both invariants hold of it. -/
def Obligations.ResetState : Prop :=
  State.reset.pc = 0x0000 ∧ State.reset.i = 0x00 ∧ State.reset.r = 0x00 ∧
  State.reset.iff1 = false ∧ State.reset.iff2 = false ∧ State.reset.im = .im0 ∧
  State.reset.halted = false ∧ State.reset.eiShadow = false ∧ State.reset.nmiPending = false ∧
  State.reset.memoryCanonical ∧ State.reset.interruptsLegal

/-- No step changes the memory map (the model's form of the parameter, log entry 6), nor what memory holds at an address
that is not RAM (R60). -/
def Obligations.StepChangesOnlyRam : Prop :=
  ∀ s t : State, step s = .next t →
    t.memMap = s.memMap ∧ ∀ a : Word, s.kindAt a ≠ .ram → t.byteAt a = s.byteAt a

/-- Only the instructions that store to memory change memory (R66); the trace only grows, and only the twelve input and
output instructions put a port access into it (R40, R390). -/
def Obligations.OnlyStoresAndIoReachOut : Prop :=
  ∀ (i : Instr) (s t : State), exec i s = .next t →
    (storesMemory i = false → ∀ a : Word, t.byteAt a = s.byteAt a) ∧
    ∃ events : List BusEvent, t.trace = s.trace ++ events ∧
      (isIo i = false → ∀ e ∈ events, ∃ a v, e = .memRead a v ∨ e = .memWrite a v)

/-- Which instruction can write which control register (R43, R439): the flip-flops exactly as the table of R439 says,
IM by `IM n`, halted by HALT, I by `LD I,A`, R by `LD R,A` (the step counts fetches), the primed registers by
`EX AF,AF'` and `EXX`; the latches and inputs of the interrupt logic by none but EI's own shadow. -/
def Obligations.ControlRegisterWriters : Prop :=
  ∀ (i : Instr) (s t : State), exec i s = .next t →
    t.iff1 = (if i = .di then false else if i = .ei then true else if i = .retn then s.iff2 else s.iff1) ∧
    t.iff2 = (if i = .di then false else if i = .ei then true else s.iff2) ∧
    (t.im ≠ s.im → i = .im0 ∨ i = .im1 ∨ i = .im2) ∧
    (t.halted ≠ s.halted → i = .halt) ∧
    (t.i ≠ s.i → i = .ldIA) ∧
    (t.r ≠ s.r → i = .ldRA) ∧
    (i ≠ .exAFAF → t.a' = s.a' ∧ t.f' = s.f') ∧
    (i ≠ .exx → t.b' = s.b' ∧ t.c' = s.c' ∧ t.d' = s.d' ∧ t.e' = s.e' ∧ t.h' = s.h' ∧ t.l' = s.l') ∧
    (i ≠ .ei → t.eiShadow = s.eiShadow) ∧
    t.nmiPending = s.nmiPending ∧ t.now = s.now ∧ t.inputs = s.inputs

/-- An instruction that does not transfer control ends with PC after its last byte, modulo 65536 (R25). -/
def Obligations.PcAdvancesByLength : Prop :=
  ∀ (i : Instr) (s t : State), transfersControl i = false → exec i s = .next t →
    t.pc = s.pc + BitVec.ofNat 16 (encode i).length

/-- Every instruction, in every state and with every operand, gives a next state: no instruction traps or faults
(R420). -/
def Obligations.EveryInstructionCompletes : Prop := ∀ (i : Instr) (s : State), ∃ t, exec i s = .next t

/-- The free values reach only F where no address is absent: two states that differ only in the values still to be
drawn are taken to states that differ at most in F and in the values still to be drawn (R12, R33). -/
def Obligations.FreeValuesReachOnlyF : Prop :=
  ∀ (i : Instr) (s t u : State) (n : Nat), (∀ a : Word, s.kindAt a ≠ .absent) →
    exec i s = .next t → exec i { s with draws := n } = .next u → changesOnly [.f, .draws] t u

/-- What an access does at an address of each kind (R60, R76): RAM and ROM give their contents, a read of an absent
address changes nothing but the count of free values, a write lands in RAM alone, a device's accesses are recorded. -/
def Obligations.MemoryAccessByKind : Prop :=
  ∀ (s : State) (a : Word) (v : Byte),
    (s.readable a → (s.read8 a).1 = s.byteAt a ∧ (s.read8 a).2 = s) ∧
    (s.kindAt a = .absent → changesOnly [.draws] s (s.read8 a).2) ∧
    (s.kindAt a = .device →
      (s.read8 a).2.trace = s.trace ++ [.memRead a (s.read8 a).1] ∧ changesOnly [.trace] s (s.read8 a).2 ∧
      (s.write8 a v).trace = s.trace ++ [.memWrite a v]) ∧
    landed a v s (s.write8 a v) ∧ changesOnly [.byte a, .trace] s (s.write8 a v) ∧
    (s.kindAt a ≠ .device → (s.write8 a v).trace = s.trace)

/-! ## 8-bit loads (40_load8.md) -/

/-- Loads of a register from a register, an immediate byte or memory (R130 to R134, R141 to R143, R151): the register
has the operand's value and nothing else changes; with `LD H,(HL)` the address is the old HL. -/
def Obligations.LoadRegister : Prop :=
  (∀ (r : Reg8) (x : Source) (s : State),
    ∃ t, exec (loadInstr r x) s = .next t ∧ t.reg8 r = x.value s ∧ t.trace = s.trace ++ x.events s ∧
      changesOnly (.reg r :: .pc :: x.touches) s t) ∧
  (∀ (nn : Word) (s : State),
    ∀ p ∈ [(Instr.ldAAtBC, s.bc), (.ldAAtDE, s.de), (.ldAAtNN nn, nn)],
      ∃ t, exec p.1 s = .next t ∧ t.a = (s.read8 p.2).1 ∧ t.trace = s.trace ++ readEvents p.2 s ∧
        changesOnly [.reg .a, .pc, .trace, .draws] s t)

/-- Stores of a byte (R135 to R140, R144 to R146, R151): the byte at the instruction's address is the operand, where
that address is RAM, and no other byte and no register changes. -/
def Obligations.StoreByte : Prop :=
  ∀ (r : Reg8) (n d : Byte) (nn : Word) (s : State),
    ∀ p ∈ [(Instr.ldAtHLReg r, s.hl, s.reg8 r), (.ldAtIXReg d r, s.addrIX d, s.reg8 r),
        (.ldAtIYReg d r, s.addrIY d, s.reg8 r), (.ldAtHLImm n, s.hl, n), (.ldAtIXImm d n, s.addrIX d, n),
        (.ldAtIYImm d n, s.addrIY d, n), (.ldAtBCA, s.bc, s.a), (.ldAtDEA, s.de, s.a), (.ldAtNNA nn, nn, s.a)],
      ∃ t, exec p.1 s = .next t ∧ landed p.2.1 p.2.2 s t ∧ t.trace = s.trace ++ writeEvents p.2.1 p.2.2 s ∧
        changesOnly [.byte p.2.1, .trace, .pc] s t

/-- `LD A,I`, `LD A,R`, `LD I,A`, `LD R,A` (R147 to R150): the two loads of A set S and Z from the byte, H = N = 0,
leave C, and copy IFF2 into P/V unless a maskable interrupt is accepted directly after (log entry 10). -/
def Obligations.LoadSpecialRegister : Prop :=
  ∀ s : State,
    (∀ p ∈ [(Instr.ldAI, s.i), (.ldAR, s.r)],
      ∃ t, exec p.1 s = .next t ∧ t.a = p.2 ∧ signZero p.2 t.flags ∧ t.flags.h = false ∧ t.flags.n = false ∧
        t.flags.c = s.flags.c ∧ (s.intFollows = false → t.flags.pv = s.iff2) ∧
        changesOnly [.reg .a, .f, .pc, .draws] s t) ∧
    (∃ t, exec .ldIA s = .next t ∧ t.i = s.a ∧ changesOnly [.i, .pc] s t) ∧
    (∃ t, exec .ldRA s = .next t ∧ t.r = s.a ∧ changesOnly [.r, .pc] s t)

/-! ## 16-bit loads, PUSH, POP (41_load16.md) -/

/-- 16-bit loads of an immediate, the loads of SP, and the 16-bit INC and DEC (R160 to R162, R171 to R173, R285 to
R290): the register has the word modulo 65536, and no flag changes. -/
def Obligations.LoadWord : Prop :=
  ∀ (p : PairDD) (nn : Word) (s : State),
    ∀ x ∈ [(Instr.ldPairImm p nn, WordReg.dd p, nn), (.ldIXImm nn, .ix, nn), (.ldIYImm nn, .iy, nn),
        (.ldSPHL, .dd .sp, s.hl), (.ldSPIX, .dd .sp, s.ix), (.ldSPIY, .dd .sp, s.iy),
        (.incPair p, .dd p, s.pairDD p + 1), (.incIX, .ix, s.ix + 1), (.incIY, .iy, s.iy + 1),
        (.decPair p, .dd p, s.pairDD p - 1), (.decIX, .ix, s.ix - 1), (.decIY, .iy, s.iy - 1)],
      ∃ t, exec x.1 s = .next t ∧ x.2.1.value t = x.2.2 ∧ changesOnly (.pc :: x.2.1.pieces) s t

/-- 16-bit loads from memory (R163 to R166, R61): the low byte is read at nn, then the high byte at
nn + 1 modulo 65536 (R67). -/
def Obligations.LoadWordFromMemory : Prop :=
  ∀ (p : PairDD) (nn : Word) (s : State),
    ∀ x ∈ [(Instr.ldHLAtNN nn, WordReg.dd .hl), (.ldPairAtNN p nn, .dd p), (.ldIXAtNN nn, .ix),
        (.ldIYAtNN nn, .iy)],
      ∃ t, exec x.1 s = .next t ∧ x.2.value t = wordReadAt nn s ∧ t.trace = s.trace ++ wordReadEvents nn s ∧
        (s.readable nn → s.readable (nn + 1) →
          x.2.value t = joinBytes (s.byteAt (nn + 1)) (s.byteAt nn) ∧ t.trace = s.trace) ∧
        changesOnly (.pc :: .trace :: .draws :: x.2.pieces) s t

/-- 16-bit stores (R167 to R170, R61): the low byte goes to nn, the high byte to nn + 1 modulo 65536. -/
def Obligations.StoreWord : Prop :=
  ∀ (p : PairDD) (nn : Word) (s : State),
    ∀ x ∈ [(Instr.ldAtNNHL nn, s.hl), (.ldAtNNPair nn p, s.pairDD p), (.ldAtNNIX nn, s.ix), (.ldAtNNIY nn, s.iy)],
      ∃ t, exec x.1 s = .next t ∧ landed nn (loByte x.2) s t ∧ landed (nn + 1) (hiByte x.2) s t ∧
        t.trace = s.trace ++ writeEvents nn (loByte x.2) s ++ writeEvents (nn + 1) (hiByte x.2) s ∧
        changesOnly [.pc, .trace, .byte nn, .byte (nn + 1)] s t

/-- PUSH (R174 to R176, R63): the high byte goes to SP - 1, then the low byte to SP - 2, and SP falls by 2; and the
encodings of the six pushes. Device writes stand in the trace in that order (R67, R76; the trace is the model's form, log
entry 8). -/
def Obligations.PushWord : Prop :=
  ([PairQQ.bc, .de, .hl, .af].map fun q => encode (.pushPair q)) = [[0xC5], [0xD5], [0xE5], [0xF5]] ∧
  encode .pushIX = [0xDD, 0xE5] ∧ encode .pushIY = [0xFD, 0xE5] ∧
  ∀ (q : PairQQ) (s : State),
    ∀ x ∈ [(Instr.pushPair q, s.pairQQ q, (1 : Word)), (.pushIX, s.ix, 2), (.pushIY, s.iy, 2)],
      ∃ t, exec x.1 s = .next t ∧ t.sp = s.sp - 2 ∧ t.pc = s.pc + x.2.2 ∧
        landed (s.sp - 1) (hiByte x.2.1) s t ∧ landed (s.sp - 2) (loByte x.2.1) s t ∧
        t.trace = s.trace ++ writeEvents (s.sp - 1) (hiByte x.2.1) s ++ writeEvents (s.sp - 2) (loByte x.2.1) s ∧
        changesOnly [.pc, .sp, .trace, .byte (s.sp - 1), .byte (s.sp - 2)] s t

/-- POP (R177 to R179, R63): the low byte is read at SP, then the high byte at SP + 1 (R67), and SP rises by 2; POP AF
writes all of F (R180). -/
def Obligations.PopWord : Prop :=
  ∀ (q : PairQQ) (s : State),
    ∀ x ∈ [(Instr.popPair q, WordReg.qq q), (.popIX, .ix), (.popIY, .iy)],
      ∃ t, exec x.1 s = .next t ∧ x.2.value t = wordReadAt s.sp s ∧ t.sp = s.sp + 2 ∧
        t.trace = s.trace ++ wordReadEvents s.sp s ∧
        (s.readable s.sp → s.readable (s.sp + 1) →
          x.2.value t = joinBytes (s.byteAt (s.sp + 1)) (s.byteAt s.sp) ∧ t.trace = s.trace) ∧
        changesOnly (.pc :: .sp :: .trace :: .draws :: x.2.pieces) s t

/-- The two bytes below SP being RAM: what any push has pushed, any pop pops (R63, R174 to R179); after any call, RST
or taken CALL cc, any return goes back behind it (R362 to R368); the RETN of a non-maskable interrupt's handler goes
back to the interrupted instruction with IFF1 as IFF2 was, and the RETI of a maskable interrupt's handler goes back to it
too (R424 to R428, R430). -/
def Obligations.StackRoundTrips : Prop :=
  ∀ s : State, s.kindAt (s.sp - 1) = .ram → s.kindAt (s.sp - 2) = .ram →
    (∀ q q' : PairQQ,
      ∀ x ∈ [(Instr.pushPair q, s.pairQQ q), (.pushIX, s.ix), (.pushIY, s.iy)],
      ∀ y ∈ [(Instr.popPair q', WordReg.qq q'), (.popIX, .ix), (.popIY, .iy)],
        ∃ t u, exec x.1 s = .next t ∧ exec y.1 t = .next u ∧ y.2.value u = x.2 ∧ u.sp = s.sp) ∧
    (∀ (cc cc' : Cond) (nn : Word) (p : Byte),
      ∀ x ∈ [(Instr.callImm nn, s.pc + 3), (.rst p, s.pc + 1)] ++
        (if conditionMet cc s = true then [(Instr.callCond cc nn, s.pc + 3)] else []),
      ∀ y ∈ [Instr.ret, .reti, .retn] ++ (if conditionMet cc' s = true then [Instr.retCond cc'] else []),
        ∃ t u, exec x.1 s = .next t ∧ exec y t = .next u ∧ u.pc = x.2 ∧ u.sp = s.sp) ∧
    (s.takesNmi → ∃ t u, step s = .next t ∧ exec .retn t = .next u ∧ u.pc = s.pc ∧ u.sp = s.sp ∧
      u.iff1 = s.iff2 ∧ u.iff2 = s.iff2) ∧
    (s.takesInt → s.im ≠ .im0 ∨ isRstByte s.nextInputs.busByte = true →
      ∃ t u, step s = .next t ∧ exec .reti t = .next u ∧ u.pc = s.pc ∧ u.sp = s.sp ∧
        u.iff1 = false ∧ u.iff2 = false)

/-! ## Exchange, block transfer, block search (42_exchange_block.md) -/

/-- The exchanges of registers (R190 to R192): all bits of F and F' move with A and A'; and their encodings. -/
def Obligations.ExchangeRegisters : Prop :=
  encode .exDEHL = [0xEB] ∧ encode .exAFAF = [0x08] ∧ encode .exx = [0xD9] ∧
  ∀ s : State,
    (∃ t, exec .exDEHL s = .next t ∧ t.pc = s.pc + 1 ∧ t.de = s.hl ∧ t.hl = s.de ∧
      changesOnly [.reg .d, .reg .e, .reg .h, .reg .l, .pc] s t) ∧
    (∃ t, exec .exAFAF s = .next t ∧ t.pc = s.pc + 1 ∧ t.a = s.a' ∧ t.f = s.f' ∧ t.a' = s.a ∧ t.f' = s.f ∧
      changesOnly [.reg .a, .f, .altA, .altF, .pc] s t) ∧
    (∃ t, exec .exx s = .next t ∧ t.pc = s.pc + 1 ∧
      t.b = s.b' ∧ t.c = s.c' ∧ t.d = s.d' ∧ t.e = s.e' ∧ t.h = s.h' ∧ t.l = s.l' ∧
      t.b' = s.b ∧ t.c' = s.c ∧ t.d' = s.d ∧ t.e' = s.e ∧ t.h' = s.h ∧ t.l' = s.l ∧
      changesOnly [.reg .b, .reg .c, .reg .d, .reg .e, .reg .h, .reg .l, .altB, .altC, .altD, .altE, .altH, .altL,
        .pc] s t)

/-- The exchanges with the top of the stack (R193 to R195): the register gets the word at SP, SP and SP + 1 get the
register's old bytes, SP stays; the accesses are read low, read high, write high, write low (R67). -/
def Obligations.ExchangeTopOfStack : Prop :=
  ∀ s : State,
    ∀ x ∈ [(Instr.exAtSPHL, WordReg.dd .hl), (.exAtSPIX, .ix), (.exAtSPIY, .iy)],
      ∃ t, exec x.1 s = .next t ∧ x.2.value t = wordReadAt s.sp s ∧
        landed s.sp (loByte (x.2.value s)) s t ∧ landed (s.sp + 1) (hiByte (x.2.value s)) s t ∧
        t.trace = s.trace ++ wordReadEvents s.sp s ++ writeEvents (s.sp + 1) (hiByte (x.2.value s)) s ++
          writeEvents s.sp (loByte (x.2.value s)) s ∧
        changesOnly (.pc :: .trace :: .draws :: .byte s.sp :: .byte (s.sp + 1) :: x.2.pieces) s t

/-- LDI, LDD and one iteration of LDIR, LDDR (R196 to R199, R204): one byte moves, DE and HL step, BC falls by one,
P/V says whether BC is not 0, H = N = 0, and the repeating forms stay at their own address while BC is not 0. -/
def Obligations.BlockTransfer : Prop :=
  ∀ s : State,
    ∀ x ∈ [(Instr.ldi, (1 : Word), false), (.ldir, 1, true), (.ldd, -1, false), (.lddr, -1, true)],
      ∃ t, exec x.1 s = .next t ∧ landed s.de (s.read8 s.hl).1 s t ∧
        t.de = s.de + x.2.1 ∧ t.hl = s.hl + x.2.1 ∧ t.bc = s.bc - 1 ∧
        (t.flags.pv = true ↔ t.bc ≠ 0) ∧ t.flags.h = false ∧ t.flags.n = false ∧
        t.flags.s = s.flags.s ∧ t.flags.z = s.flags.z ∧ t.flags.c = s.flags.c ∧
        t.pc = (if x.2.2 = true ∧ t.bc ≠ 0 then s.pc else s.pc + 2) ∧
        t.trace = s.trace ++ readEvents s.hl s ++ writeEvents s.de (s.read8 s.hl).1 s ∧
        changesOnly [.byte s.de, .reg .b, .reg .c, .reg .d, .reg .e, .reg .h, .reg .l, .f, .pc, .trace, .draws] s t

/-- CPI, CPD and one iteration of CPIR, CPDR (R200 to R204): A is compared with the byte at HL, A and C do not change,
HL steps, BC falls by one, P/V says whether BC is not 0; the repeating forms stay while BC is not 0 and no match was
found. -/
def Obligations.BlockSearch : Prop :=
  ∀ s : State,
    ∀ x ∈ [(Instr.cpi, (1 : Word), false), (.cpir, 1, true), (.cpd, -1, false), (.cpdr, -1, true)],
      ∃ t, exec x.1 s = .next t ∧ t.hl = s.hl + x.2.1 ∧ t.bc = s.bc - 1 ∧
        (t.flags.z = true ↔ s.a = (s.read8 s.hl).1) ∧
        t.flags.s = (s.a - (s.read8 s.hl).1).msb ∧
        (t.flags.h = true ↔ s.a.toNat % 16 < (s.read8 s.hl).1.toNat % 16) ∧
        (t.flags.pv = true ↔ t.bc ≠ 0) ∧ t.flags.n = true ∧ t.flags.c = s.flags.c ∧
        t.pc = (if x.2.2 = true ∧ t.bc ≠ 0 ∧ s.a ≠ (s.read8 s.hl).1 then s.pc else s.pc + 2) ∧
        t.trace = s.trace ++ readEvents s.hl s ∧
        changesOnly [.reg .b, .reg .c, .reg .h, .reg .l, .f, .pc, .trace, .draws] s t

/-- LDIR's meaning applied BC times, with no fetch between (R197, R204): BC iterations copy the block of BC bytes from
HL to DE, byte by byte the same,
where the source is readable, the destination is RAM, and no byte is read after the copy has overwritten it; no other
byte changes and execution is past the LDIR. -/
def Obligations.LdirCopiesBlock : Prop :=
  ∀ s : State, s.bc ≠ 0 →
    (∀ k < s.bc.toNat, s.readable (s.hl + BitVec.ofNat 16 k) ∧ s.kindAt (s.de + BitVec.ofNat 16 k) = .ram) →
    (∀ j k, j < k → k < s.bc.toNat → s.de + BitVec.ofNat 16 j ≠ s.hl + BitVec.ofNat 16 k) →
    ∃ t, repeatExec .ldir s.bc.toNat s = some t ∧ t.bc = 0 ∧ t.hl = s.hl + s.bc ∧ t.de = s.de + s.bc ∧
      t.pc = s.pc + 2 ∧ t.trace = s.trace ∧
      (∀ k < s.bc.toNat, t.byteAt (s.de + BitVec.ofNat 16 k) = s.byteAt (s.hl + BitVec.ofNat 16 k)) ∧
      (∀ a : Word, (∀ k < s.bc.toNat, a ≠ s.de + BitVec.ofNat 16 k) → t.byteAt a = s.byteAt a)

/-! ## 8-bit arithmetic and logic (43_alu8.md) -/

/-- ADD and ADC in every operand form (R221 to R226, R238): the sum, with the old carry for ADC, and its six flags. -/
def Obligations.AddToA : Prop :=
  ∀ (x : Source) (s : State),
    ∀ p ∈ [(AluOp.add, false), (.adc, s.flags.c)],
      ∃ t, exec (p.1.instr x) s = .next t ∧ addOutcome s.a (x.value s) p.2 t.a t.flags ∧
        addCarry s.a (x.value s) p.2 t.flags ∧ t.trace = s.trace ++ x.events s ∧
        changesOnly (.reg .a :: .f :: .pc :: .draws :: x.touches) s t

/-- SUB, SBC and CP in every operand form (R227, R228, R232, R238): the difference, with the old carry for SBC, and its
six flags; CP leaves A. -/
def Obligations.SubtractFromA : Prop :=
  ∀ (x : Source) (s : State),
    (∀ p ∈ [(AluOp.sub, false), (.sbc, s.flags.c)],
      ∃ t, exec (p.1.instr x) s = .next t ∧ subOutcome s.a (x.value s) p.2 t.a t.flags ∧
        subCarry s.a (x.value s) p.2 t.flags ∧ t.trace = s.trace ++ x.events s ∧
        changesOnly (.reg .a :: .f :: .pc :: .draws :: x.touches) s t) ∧
    (∃ t, exec (AluOp.cp.instr x) s = .next t ∧
      (∃ res, subOutcome s.a (x.value s) false res t.flags) ∧
      subCarry s.a (x.value s) false t.flags ∧ t.trace = s.trace ++ x.events s ∧
      changesOnly (.f :: .pc :: .draws :: x.touches) s t)

/-- AND, OR and XOR in every operand form (R229 to R231, C20 of 90_conflicts.md): the bitwise result, P/V its parity,
C = N = 0, H = 1 for AND and 0 for OR and XOR. -/
def Obligations.LogicOnA : Prop :=
  ∀ (x : Source) (s : State),
    ∀ p ∈ [(AluOp.and, s.a &&& x.value s, true), (.or, s.a ||| x.value s, false), (.xor, s.a ^^^ x.value s, false)],
      ∃ t, exec (p.1.instr x) s = .next t ∧ t.a = p.2.1 ∧ parityOutcome p.2.1 t.flags ∧
        t.flags.h = p.2.2 ∧ t.flags.c = false ∧ t.trace = s.trace ++ x.events s ∧
        changesOnly (.reg .a :: .f :: .pc :: .draws :: x.touches) s t

/-- INC and DEC of a register or a byte of memory (R233 to R237): the operand plus or minus one, S, Z, H, V and N as
for the sum or difference with 1, C unchanged. -/
def Obligations.IncDecByte : Prop :=
  ∀ (m : Place) (s : State),
    (∃ t res, exec (incInstr m) s = .next t ∧ m.holds res s t ∧
      addOutcome (m.source.value s) 1 false res t.flags ∧ t.flags.c = s.flags.c ∧
      t.trace = s.trace ++ m.events res s ∧ changesOnly (.f :: .pc :: .draws :: m.target s) s t) ∧
    (∃ t res, exec (decInstr m) s = .next t ∧ m.holds res s t ∧
      subOutcome (m.source.value s) 1 false res t.flags ∧ t.flags.c = s.flags.c ∧
      t.trace = s.trace ++ m.events res s ∧ changesOnly (.f :: .pc :: .draws :: m.target s) s t)

/-! ## General arithmetic and CPU control (44_general_cpu_control.md) -/

/-- DAA (R260, C22 of 90_conflicts.md): the correction is 06h where H or a low digit above 9 asks for it, plus 60h
where C or A above 99h asks for it; it is added, or subtracted where N = 1; the new C and H, N unchanged. -/
def Obligations.DecimalAdjust : Prop :=
  ∀ s : State, ∃ t, exec .daa s = .next t ∧
    (∀ low high : Int,
      low = (if s.flags.h = true ∨ 9 < s.a.toNat % 16 then 0x06 else 0) →
      high = (if s.flags.c = true ∨ 0x99 < s.a.toNat then 0x60 else 0) →
      (t.a.toNat : Int) =
        (if s.flags.n = true then (s.a.toNat : Int) - low - high else (s.a.toNat : Int) + low + high) % 256) ∧
    (t.flags.c = true ↔ s.flags.c = true ∨ 0x99 < s.a.toNat) ∧
    (s.flags.n = false → (t.flags.h = true ↔ 9 < s.a.toNat % 16)) ∧
    (s.flags.n = true → (t.flags.h = true ↔ s.flags.h = true ∧ s.a.toNat % 16 < 6)) ∧
    t.flags.n = s.flags.n ∧ signZero t.a t.flags ∧ t.flags.pv = evenParity t.a ∧
    changesOnly [.reg .a, .f, .pc, .draws] s t

/-- DAA after an addition or a subtraction of packed-BCD bytes gives the packed-BCD sum or difference of the two, with
the decimal carry or borrow in C (what R260 is for). -/
def Obligations.DecimalArithmetic : Prop :=
  ∀ (v : Byte) (s : State), isBcd s.a → isBcd v →
    (∀ p ∈ [(AluOp.add, 0), (.adc, s.flags.c.toNat)],
      ∃ t u, exec (p.1.instr (.imm v)) s = .next t ∧ exec .daa t = .next u ∧ isBcd u.a ∧
        bcdValue u.a + (if u.flags.c = true then 100 else 0) = bcdValue s.a + bcdValue v + p.2) ∧
    (∀ p ∈ [(AluOp.sub, 0), (.sbc, s.flags.c.toNat)],
      ∃ t u, exec (p.1.instr (.imm v)) s = .next t ∧ exec .daa t = .next u ∧ isBcd u.a ∧
        bcdValue u.a + bcdValue v + p.2 = bcdValue s.a + (if u.flags.c = true then 100 else 0))

/-- CPL, NEG, CCF and SCF (R261 to R264, C23 of 90_conflicts.md), with their encodings. -/
def Obligations.ComplementAndCarry : Prop :=
  encode .cpl = [0x2F] ∧ encode .neg = [0xED, 0x44] ∧ encode .ccf = [0x3F] ∧ encode .scf = [0x37] ∧
  ∀ s : State,
    (∃ t, exec .cpl s = .next t ∧ t.pc = s.pc + 1 ∧ t.a = ~~~s.a ∧ t.flags.h = true ∧ t.flags.n = true ∧
      t.flags.s = s.flags.s ∧ t.flags.z = s.flags.z ∧ t.flags.pv = s.flags.pv ∧ t.flags.c = s.flags.c ∧
      changesOnly [.reg .a, .f, .pc, .draws] s t) ∧
    (∃ t, exec .neg s = .next t ∧ t.pc = s.pc + 2 ∧ subOutcome 0 s.a false t.a t.flags ∧ subCarry 0 s.a false t.flags ∧
      changesOnly [.reg .a, .f, .pc, .draws] s t) ∧
    (∀ p ∈ [(Instr.ccf, !s.flags.c, s.flags.c), (.scf, true, false)],
      ∃ t, exec p.1 s = .next t ∧ t.pc = s.pc + 1 ∧ t.flags.c = p.2.1 ∧ t.flags.h = p.2.2 ∧ t.flags.n = false ∧
        t.flags.s = s.flags.s ∧ t.flags.z = s.flags.z ∧ t.flags.pv = s.flags.pv ∧
        changesOnly [.f, .pc, .draws] s t)

/-- NOP, HALT, DI, EI and IM n (R265 to R271), with their encodings. R is not counted here: the fetch has counted it
before `exec` (R35, log entry 18). -/
def Obligations.CpuControl : Prop :=
  ([.nop, .halt, .di, .ei, .im0, .im1, .im2].map encode) =
    [[0x00], [0x76], [0xF3], [0xFB], [0xED, 0x46], [0xED, 0x56], [0xED, 0x5E]] ∧
  ∀ s : State,
    (∃ t, exec .nop s = .next t ∧ t.pc = s.pc + 1 ∧ changesOnly [.pc] s t) ∧
    (∃ t, exec .halt s = .next t ∧ t.halted = true ∧ t.pc = s.pc + 1 ∧ changesOnly [.halted, .pc] s t) ∧
    (∃ t, exec .di s = .next t ∧ t.pc = s.pc + 1 ∧ t.iff1 = false ∧ t.iff2 = false ∧
      changesOnly [.iff1, .iff2, .pc] s t) ∧
    (∃ t, exec .ei s = .next t ∧ t.pc = s.pc + 1 ∧ t.iff1 = true ∧ t.iff2 = true ∧ t.eiShadow = true ∧
      changesOnly [.iff1, .iff2, .eiShadow, .pc] s t) ∧
    (∀ p ∈ [(Instr.im0, IntMode.im0), (.im1, .im1), (.im2, .im2)],
      ∃ t, exec p.1 s = .next t ∧ t.pc = s.pc + 2 ∧ t.im = p.2 ∧ changesOnly [.im, .pc] s t)

/-! ## 16-bit arithmetic (45_arith16.md) -/

/-- ADD HL, ADD IX and ADD IY (R280, R283, R284, R291): the sum modulo 65536, C the carry out of bit 15, N = 0; S, Z and
P/V unchanged, H any value. -/
def Obligations.AddWord : Prop :=
  ∀ (p : PairDD) (pp : PairPP) (rr : PairRR) (s : State),
    ∀ x ∈ [(Instr.addHLPair p, WordReg.dd .hl, s.pairDD p), (.addIXPair pp, .ix, s.pairPP pp),
        (.addIYPair rr, .iy, s.pairRR rr)],
      ∃ t, exec x.1 s = .next t ∧
        (x.2.1.value t).toNat = ((x.2.1.value s).toNat + x.2.2.toNat) % 65536 ∧
        (t.flags.c = true ↔ 65536 ≤ (x.2.1.value s).toNat + x.2.2.toNat) ∧ t.flags.n = false ∧
        t.flags.s = s.flags.s ∧ t.flags.z = s.flags.z ∧ t.flags.pv = s.flags.pv ∧
        changesOnly (.f :: .pc :: .draws :: x.2.1.pieces) s t

/-- ADC HL and SBC HL (R281, R282, R291): the sum or difference with the old carry, S, Z, V and C of the 16-bit
result, N; H any value. -/
def Obligations.AddSubtractWordWithCarry : Prop :=
  ∀ (p : PairDD) (s : State),
    (∃ t, exec (.adcHLPair p) s = .next t ∧
      t.hl.toNat = (s.hl.toNat + (s.pairDD p).toNat + s.flags.c.toNat) % 65536 ∧
      (t.flags.c = true ↔ 65536 ≤ s.hl.toNat + (s.pairDD p).toNat + s.flags.c.toNat) ∧
      (t.flags.pv = true ↔ s.hl.toInt + (s.pairDD p).toInt + s.flags.c.toNat < -32768 ∨
        32767 < s.hl.toInt + (s.pairDD p).toInt + s.flags.c.toNat) ∧
      (t.flags.z = true ↔ t.hl.toNat = 0) ∧ (t.flags.s = true ↔ t.hl.toInt < 0) ∧ t.flags.n = false ∧
      changesOnly [.reg .h, .reg .l, .f, .pc, .draws] s t) ∧
    (∃ t, exec (.sbcHLPair p) s = .next t ∧
      (t.hl.toNat : Int) = ((s.hl.toNat : Int) - (s.pairDD p).toNat - s.flags.c.toNat) % 65536 ∧
      (t.flags.c = true ↔ s.hl.toNat < (s.pairDD p).toNat + s.flags.c.toNat) ∧
      (t.flags.pv = true ↔ s.hl.toInt - (s.pairDD p).toInt - s.flags.c.toNat < -32768 ∨
        32767 < s.hl.toInt - (s.pairDD p).toInt - s.flags.c.toNat) ∧
      (t.flags.z = true ↔ t.hl.toNat = 0) ∧ (t.flags.s = true ↔ t.hl.toInt < 0) ∧ t.flags.n = true ∧
      changesOnly [.reg .h, .reg .l, .f, .pc, .draws] s t)

/-! ## Rotates and shifts (46_rotate_shift.md) -/

/-- The four rotates of A (R300 to R303, R316): the bits of A move, C gets the bit moved out, H = N = 0, and S, Z and
P/V do not change. -/
def Obligations.RotateAccumulator : Prop :=
  ∀ s : State,
    ∀ p ∈ [(Instr.rlca, RotOp.rlc), (.rla, .rl), (.rrca, .rrc), (.rra, .rr)],
      ∃ t, exec p.1 s = .next t ∧ p.2.gives s.flags.c s.a t.a ∧ t.flags.c = p.2.carryOut s.a ∧
        t.flags.h = false ∧ t.flags.n = false ∧ t.flags.s = s.flags.s ∧ t.flags.z = s.flags.z ∧
        t.flags.pv = s.flags.pv ∧ changesOnly [.reg .a, .f, .pc, .draws] s t

/-- The seven rotates and shifts of a register or a byte of memory (R304 to R313, R316): the bits move, C gets the bit
moved out, S and Z from the result, P/V its parity, H = N = 0. -/
def Obligations.RotateAndShift : Prop :=
  ∀ (op : RotOp) (m : Place) (s : State),
    ∃ t res, exec (op.instr m) s = .next t ∧ m.holds res s t ∧ op.gives s.flags.c (m.source.value s) res ∧
      t.flags.c = op.carryOut (m.source.value s) ∧ parityOutcome res t.flags ∧ t.flags.h = false ∧
      t.trace = s.trace ++ m.events res s ∧ changesOnly (.f :: .pc :: .draws :: m.target s) s t

/-- RLD and RRD (R314, R315): three nibbles rotate through A and the byte at HL; the high nibble of A stays, C does not
change, S, Z and P/V come from A, H = N = 0. -/
def Obligations.RotateDigits : Prop :=
  ∀ s : State,
    (∃ t w, exec .rld s = .next t ∧
      t.a.toNat = s.a.toNat / 16 * 16 + (s.read8 s.hl).1.toNat / 16 ∧
      (w : Byte).toNat = (s.read8 s.hl).1.toNat % 16 * 16 + s.a.toNat % 16 ∧ landed s.hl w s t ∧
      parityOutcome t.a t.flags ∧ t.flags.h = false ∧ t.flags.c = s.flags.c ∧
      t.trace = s.trace ++ readEvents s.hl s ++ writeEvents s.hl w s ∧
      changesOnly [.reg .a, .byte s.hl, .f, .pc, .trace, .draws] s t) ∧
    (∃ t w, exec .rrd s = .next t ∧
      t.a.toNat = s.a.toNat / 16 * 16 + (s.read8 s.hl).1.toNat % 16 ∧
      (w : Byte).toNat = s.a.toNat % 16 * 16 + (s.read8 s.hl).1.toNat / 16 ∧ landed s.hl w s t ∧
      parityOutcome t.a t.flags ∧ t.flags.h = false ∧ t.flags.c = s.flags.c ∧
      t.trace = s.trace ++ readEvents s.hl s ++ writeEvents s.hl w s ∧
      changesOnly [.reg .a, .byte s.hl, .f, .pc, .trace, .draws] s t)

/-! ## Bits (47_bit.md) -/

/-- BIT (R330 to R333): Z is the complement of the bit, H = 1, N = 0, C unchanged, S and P/V any value; nothing is
written but F. -/
def Obligations.TestBit : Prop :=
  ∀ (b : Nat) (m : Place) (s : State),
    ∃ t, exec (bitInstr b m) s = .next t ∧ t.flags.z = !(m.source.value s).getLsbD b ∧ t.flags.h = true ∧
      t.flags.n = false ∧ t.flags.c = s.flags.c ∧ t.trace = s.trace ++ m.source.events s ∧
      changesOnly (.f :: .pc :: .draws :: m.source.touches) s t

/-- SET and RES (R334 to R338): bit b of the operand becomes 1 or 0, its other bits stay, no flag changes. -/
def Obligations.SetAndResetBit : Prop :=
  ∀ (b : Nat) (m : Place) (s : State),
    ∀ p ∈ [(setInstr b m, true), (resInstr b m, false)],
      ∃ t res, exec p.1 s = .next t ∧ m.holds res s t ∧
        (∀ k < 8, (res : Byte).getLsbD k = if k = b then p.2 else (m.source.value s).getLsbD k) ∧
        t.trace = s.trace ++ m.events res s ∧ changesOnly (.pc :: m.target s) s t

/-! ## Jumps, calls, returns (48_jump_call_return.md) -/

/-- The jumps (R350 to R361): PC goes to the target, relative ones counted from the next instruction, or past the
instruction where the condition does not hold; DJNZ counts B down and jumps while B is not 0; no flag changes. -/
def Obligations.Jumps : Prop :=
  ∀ (cc : Cond) (nn : Word) (e : Byte) (s : State),
    (∀ x ∈ [(Instr.jpImm nn, true, nn, (3 : Word)), (.jpCond cc nn, conditionMet cc s, nn, 3),
        (.jr e, true, s.pc + 2 + e.signExtend 16, 2), (.jrC e, conditionMet .c s, s.pc + 2 + e.signExtend 16, 2),
        (.jrNC e, conditionMet .nc s, s.pc + 2 + e.signExtend 16, 2),
        (.jrZ e, conditionMet .z s, s.pc + 2 + e.signExtend 16, 2),
        (.jrNZ e, conditionMet .nz s, s.pc + 2 + e.signExtend 16, 2),
        (.jpHL, true, s.hl, 1), (.jpIX, true, s.ix, 2), (.jpIY, true, s.iy, 2)],
      ∃ t, exec x.1 s = .next t ∧ t.pc = (if x.2.1 = true then x.2.2.1 else s.pc + x.2.2.2) ∧
        changesOnly [.pc] s t) ∧
    (∃ t, exec (.djnz e) s = .next t ∧ t.b = s.b - 1 ∧
      t.pc = (if s.b - 1 ≠ 0 then s.pc + 2 + e.signExtend 16 else s.pc + 2) ∧
      changesOnly [.reg .b, .pc] s t)

/-- CALL, CALL cc and RST (R362, R363, R368): where taken, the address of the next instruction is pushed and PC is the
target; where not, PC goes past the instruction and nothing else changes. -/
def Obligations.Calls : Prop :=
  ∀ (cc : Cond) (nn : Word) (p : Byte) (s : State),
    (∀ x ∈ [(Instr.callImm nn, nn, s.pc + 3), (.rst p, BitVec.ofNat 16 p.toNat, s.pc + 1)] ++
        (if conditionMet cc s = true then [(Instr.callCond cc nn, nn, s.pc + 3)] else []),
      ∃ t, exec x.1 s = .next t ∧ t.pc = x.2.1 ∧ t.sp = s.sp - 2 ∧
        landed (s.sp - 1) (hiByte x.2.2) s t ∧ landed (s.sp - 2) (loByte x.2.2) s t ∧
        t.trace = s.trace ++ writeEvents (s.sp - 1) (hiByte x.2.2) s ++ writeEvents (s.sp - 2) (loByte x.2.2) s ∧
        changesOnly [.pc, .sp, .trace, .byte (s.sp - 1), .byte (s.sp - 2)] s t) ∧
    (conditionMet cc s = false →
      ∃ t, exec (.callCond cc nn) s = .next t ∧ t.pc = s.pc + 3 ∧ changesOnly [.pc] s t)

/-- RET, RET cc, RETI and RETN (R364 to R367, R430): PC is the word at SP, read low byte first (R67), and SP
rises by 2; RETI changes no flip-flop, RETN copies IFF2 into IFF1; a RET cc whose condition does not hold changes only PC. -/
def Obligations.Returns : Prop :=
  ∀ (cc : Cond) (s : State),
    (∀ x ∈ [(Instr.ret, s.iff1), (.reti, s.iff1), (.retn, s.iff2)] ++
        (if conditionMet cc s = true then [(Instr.retCond cc, s.iff1)] else []),
      ∃ t, exec x.1 s = .next t ∧ t.pc = wordReadAt s.sp s ∧ t.sp = s.sp + 2 ∧ t.iff1 = x.2 ∧
        t.trace = s.trace ++ wordReadEvents s.sp s ∧
        (s.readable s.sp → s.readable (s.sp + 1) →
          t.pc = joinBytes (s.byteAt (s.sp + 1)) (s.byteAt s.sp) ∧ t.trace = s.trace) ∧
        changesOnly [.pc, .sp, .iff1, .trace, .draws] s t) ∧
    (conditionMet cc s = false →
      ∃ t, exec (.retCond cc) s = .next t ∧ t.pc = s.pc + 1 ∧ changesOnly [.pc] s t)

/-! ## Input and output (49_io.md) -/

/-- IN and OUT of one byte (R390 to R392, R397, R398, C25 of 90_conflicts.md): the port's high byte is A for the (n)
forms and B for the (C) forms; `IN r,(C)` sets S, Z and P/V from the byte, H = N = 0, and leaves C; the others change no
flag. -/
def Obligations.SingleInputOutput : Prop :=
  ∀ (n : Byte) (r : Reg8) (s : State),
    (∃ t v, exec (.inAImm n) s = .next t ∧ t.a = v ∧ t.trace = s.trace ++ [.portRead (joinBytes s.a n) v] ∧
      (∀ w, s.now.portByte = some w → v = w) ∧ changesOnly [.reg .a, .pc, .trace] s t) ∧
    (∃ t v, exec (.inRegC r) s = .next t ∧ t.reg8 r = v ∧ t.trace = s.trace ++ [.portRead (joinBytes s.b s.c) v] ∧
      (∀ w, s.now.portByte = some w → v = w) ∧ parityOutcome v t.flags ∧ t.flags.h = false ∧
      t.flags.c = s.flags.c ∧ changesOnly [.reg r, .f, .pc, .trace, .draws] s t) ∧
    (∃ t, exec (.outImmA n) s = .next t ∧ t.trace = s.trace ++ [.portWrite (joinBytes s.a n) s.a] ∧
      changesOnly [.pc, .trace] s t) ∧
    (∃ t, exec (.outCReg r) s = .next t ∧ t.trace = s.trace ++ [.portWrite (joinBytes s.b s.c) (s.reg8 r)] ∧
      changesOnly [.pc, .trace] s t)

/-- INI, IND, OUTI, OUTD and one iteration of INIR, INDR, OTIR, OTDR (R393 to R396, R399 to R403): input takes the port
BC before B falls by one and stores at HL, output sends the byte at HL to the port BC after B has fallen; HL steps; Z
says whether B became 0, N = 1, C unchanged, S, H and P/V any value; the repeating forms stay while B is not 0. -/
def Obligations.BlockInputOutput : Prop :=
  ∀ s : State,
    (∀ x ∈ [(Instr.ini, (1 : Word), false), (.inir, 1, true), (.ind, -1, false), (.indr, -1, true)],
      ∃ t v, exec x.1 s = .next t ∧ landed s.hl v s t ∧ (∀ w, s.now.portByte = some w → v = w) ∧
        t.trace = s.trace ++ [.portRead (joinBytes s.b s.c) v] ++ writeEvents s.hl v s ∧
        t.b = s.b - 1 ∧ t.hl = s.hl + x.2.1 ∧
        (t.flags.z = true ↔ t.b = 0) ∧ t.flags.n = true ∧ t.flags.c = s.flags.c ∧
        t.pc = (if x.2.2 = true ∧ t.b ≠ 0 then s.pc else s.pc + 2) ∧
        changesOnly [.byte s.hl, .reg .b, .reg .h, .reg .l, .f, .pc, .trace, .draws] s t) ∧
    (∀ x ∈ [(Instr.outi, (1 : Word), false), (.otir, 1, true), (.outd, -1, false), (.otdr, -1, true)],
      ∃ t, exec x.1 s = .next t ∧
        t.trace = s.trace ++ readEvents s.hl s ++ [.portWrite (joinBytes (s.b - 1) s.c) (s.read8 s.hl).1] ∧
        t.b = s.b - 1 ∧ t.hl = s.hl + x.2.1 ∧
        (t.flags.z = true ↔ t.b = 0) ∧ t.flags.n = true ∧ t.flags.c = s.flags.c ∧
        t.pc = (if x.2.2 = true ∧ t.b ≠ 0 then s.pc else s.pc + 2) ∧
        changesOnly [.reg .b, .reg .h, .reg .l, .f, .pc, .trace, .draws] s t)

/-! ## The inputs of a step (R441 of 60_exceptions.md) -/

/-- A step takes exactly one record of inputs: the first of the list becomes the current inputs and leaves the list, or
the defaults of D9 are the current inputs where the list is empty (R441; the list is the model's own form, log entry 3).
So an `IN A,(n)`, an `IN r,(C)`, an INI, INIR, IND or INDR at PC reads the answer that the boundary's record carries
(log entry 5). -/
def Obligations.StepTakesOneInputRecord : Prop :=
  (∀ s t : State, step s = .next t →
    (s.inputs = [] → t.inputs = [] ∧
      t.now = { reset := false, nmiEdge := false, intLine := false, busByte := 0xFF, portByte := none }) ∧
    (∀ x rest, s.inputs = x :: rest → t.now = x ∧ t.inputs = rest)) ∧
  (∀ (s : State) (n v : Byte), s.runsInstruction → s.instructionAtPC (.inAImm n) → s.nextInputs.portByte = some v →
    ∃ t, step s = .next t ∧ t.a = v ∧ t.trace = s.trace ++ [.portRead (joinBytes s.a n) v]) ∧
  (∀ (s : State) (r : Reg8) (v : Byte), s.runsInstruction → s.instructionAtPC (.inRegC r) →
    s.nextInputs.portByte = some v →
    ∃ t, step s = .next t ∧ t.reg8 r = v ∧ t.trace = s.trace ++ [.portRead (joinBytes s.b s.c) v]) ∧
  (∀ (s : State) (v : Byte), ∀ i ∈ [Instr.ini, .inir, .ind, .indr], s.runsInstruction → s.instructionAtPC i →
    s.nextInputs.portByte = some v →
    ∃ t, step s = .next t ∧ landed s.hl v s t ∧
      t.trace = s.trace ++ [.portRead (joinBytes s.b s.c) v] ++ writeEvents s.hl v s)
end

