-- ==== Sys2Proof/Laws/State.lean ====
section
/-!
SUPPORT. What each named update of the state does to each field: one lemma a field and update, so that no later
proof unfolds an update. The updates that touch memory say here only what they leave alone; what they do
is in Laws/Memory.lean.
-/

namespace Sys2Proof.Machine

variable (s : State)

/-! ## record -/

@[simp] theorem State.record_a (ev : BusEvent) : (s.record ev).a = s.a := rfl
@[simp] theorem State.record_f (ev : BusEvent) : (s.record ev).f = s.f := rfl
@[simp] theorem State.record_b (ev : BusEvent) : (s.record ev).b = s.b := rfl
@[simp] theorem State.record_c (ev : BusEvent) : (s.record ev).c = s.c := rfl
@[simp] theorem State.record_d (ev : BusEvent) : (s.record ev).d = s.d := rfl
@[simp] theorem State.record_e (ev : BusEvent) : (s.record ev).e = s.e := rfl
@[simp] theorem State.record_h (ev : BusEvent) : (s.record ev).h = s.h := rfl
@[simp] theorem State.record_l (ev : BusEvent) : (s.record ev).l = s.l := rfl
@[simp] theorem State.record_a' (ev : BusEvent) : (s.record ev).a' = s.a' := rfl
@[simp] theorem State.record_f' (ev : BusEvent) : (s.record ev).f' = s.f' := rfl
@[simp] theorem State.record_b' (ev : BusEvent) : (s.record ev).b' = s.b' := rfl
@[simp] theorem State.record_c' (ev : BusEvent) : (s.record ev).c' = s.c' := rfl
@[simp] theorem State.record_d' (ev : BusEvent) : (s.record ev).d' = s.d' := rfl
@[simp] theorem State.record_e' (ev : BusEvent) : (s.record ev).e' = s.e' := rfl
@[simp] theorem State.record_h' (ev : BusEvent) : (s.record ev).h' = s.h' := rfl
@[simp] theorem State.record_l' (ev : BusEvent) : (s.record ev).l' = s.l' := rfl
@[simp] theorem State.record_ix (ev : BusEvent) : (s.record ev).ix = s.ix := rfl
@[simp] theorem State.record_iy (ev : BusEvent) : (s.record ev).iy = s.iy := rfl
@[simp] theorem State.record_sp (ev : BusEvent) : (s.record ev).sp = s.sp := rfl
@[simp] theorem State.record_pc (ev : BusEvent) : (s.record ev).pc = s.pc := rfl
@[simp] theorem State.record_i (ev : BusEvent) : (s.record ev).i = s.i := rfl
@[simp] theorem State.record_r (ev : BusEvent) : (s.record ev).r = s.r := rfl
@[simp] theorem State.record_iff1 (ev : BusEvent) : (s.record ev).iff1 = s.iff1 := rfl
@[simp] theorem State.record_iff2 (ev : BusEvent) : (s.record ev).iff2 = s.iff2 := rfl
@[simp] theorem State.record_im (ev : BusEvent) : (s.record ev).im = s.im := rfl
@[simp] theorem State.record_halted (ev : BusEvent) : (s.record ev).halted = s.halted := rfl
@[simp] theorem State.record_eiShadow (ev : BusEvent) : (s.record ev).eiShadow = s.eiShadow := rfl
@[simp] theorem State.record_nmiPending (ev : BusEvent) : (s.record ev).nmiPending = s.nmiPending := rfl
@[simp] theorem State.record_mem (ev : BusEvent) : (s.record ev).mem = s.mem := rfl
@[simp] theorem State.record_memMap (ev : BusEvent) : (s.record ev).memMap = s.memMap := rfl
@[simp] theorem State.record_now (ev : BusEvent) : (s.record ev).now = s.now := rfl
@[simp] theorem State.record_inputs (ev : BusEvent) : (s.record ev).inputs = s.inputs := rfl
@[simp] theorem State.record_trace (ev : BusEvent) : (s.record ev).trace = s.trace ++ [ev] := rfl
@[simp] theorem State.record_draws (ev : BusEvent) : (s.record ev).draws = s.draws := rfl
@[simp] theorem State.record_reg8 (q : Reg8) (ev : BusEvent) : (s.record ev).reg8 q = s.reg8 q := by cases q <;> rfl
@[simp] theorem State.record_flags (ev : BusEvent) : (s.record ev).flags = s.flags := rfl
@[simp] theorem State.record_byteAt (a : Word) (ev : BusEvent) : (s.record ev).byteAt a = s.byteAt a := rfl
@[simp] theorem State.record_kindAt (a : Word) (ev : BusEvent) : (s.record ev).kindAt a = s.kindAt a := rfl
@[simp] theorem State.record_bc (ev : BusEvent) : (s.record ev).bc = s.bc := rfl
@[simp] theorem State.record_de (ev : BusEvent) : (s.record ev).de = s.de := rfl
@[simp] theorem State.record_hl (ev : BusEvent) : (s.record ev).hl = s.hl := rfl

/-! ## jumpTo -/

@[simp] theorem State.jumpTo_a (w : Word) : (s.jumpTo w).a = s.a := rfl
@[simp] theorem State.jumpTo_f (w : Word) : (s.jumpTo w).f = s.f := rfl
@[simp] theorem State.jumpTo_b (w : Word) : (s.jumpTo w).b = s.b := rfl
@[simp] theorem State.jumpTo_c (w : Word) : (s.jumpTo w).c = s.c := rfl
@[simp] theorem State.jumpTo_d (w : Word) : (s.jumpTo w).d = s.d := rfl
@[simp] theorem State.jumpTo_e (w : Word) : (s.jumpTo w).e = s.e := rfl
@[simp] theorem State.jumpTo_h (w : Word) : (s.jumpTo w).h = s.h := rfl
@[simp] theorem State.jumpTo_l (w : Word) : (s.jumpTo w).l = s.l := rfl
@[simp] theorem State.jumpTo_a' (w : Word) : (s.jumpTo w).a' = s.a' := rfl
@[simp] theorem State.jumpTo_f' (w : Word) : (s.jumpTo w).f' = s.f' := rfl
@[simp] theorem State.jumpTo_b' (w : Word) : (s.jumpTo w).b' = s.b' := rfl
@[simp] theorem State.jumpTo_c' (w : Word) : (s.jumpTo w).c' = s.c' := rfl
@[simp] theorem State.jumpTo_d' (w : Word) : (s.jumpTo w).d' = s.d' := rfl
@[simp] theorem State.jumpTo_e' (w : Word) : (s.jumpTo w).e' = s.e' := rfl
@[simp] theorem State.jumpTo_h' (w : Word) : (s.jumpTo w).h' = s.h' := rfl
@[simp] theorem State.jumpTo_l' (w : Word) : (s.jumpTo w).l' = s.l' := rfl
@[simp] theorem State.jumpTo_ix (w : Word) : (s.jumpTo w).ix = s.ix := rfl
@[simp] theorem State.jumpTo_iy (w : Word) : (s.jumpTo w).iy = s.iy := rfl
@[simp] theorem State.jumpTo_sp (w : Word) : (s.jumpTo w).sp = s.sp := rfl
@[simp] theorem State.jumpTo_pc (w : Word) : (s.jumpTo w).pc = w := rfl
@[simp] theorem State.jumpTo_i (w : Word) : (s.jumpTo w).i = s.i := rfl
@[simp] theorem State.jumpTo_r (w : Word) : (s.jumpTo w).r = s.r := rfl
@[simp] theorem State.jumpTo_iff1 (w : Word) : (s.jumpTo w).iff1 = s.iff1 := rfl
@[simp] theorem State.jumpTo_iff2 (w : Word) : (s.jumpTo w).iff2 = s.iff2 := rfl
@[simp] theorem State.jumpTo_im (w : Word) : (s.jumpTo w).im = s.im := rfl
@[simp] theorem State.jumpTo_halted (w : Word) : (s.jumpTo w).halted = s.halted := rfl
@[simp] theorem State.jumpTo_eiShadow (w : Word) : (s.jumpTo w).eiShadow = s.eiShadow := rfl
@[simp] theorem State.jumpTo_nmiPending (w : Word) : (s.jumpTo w).nmiPending = s.nmiPending := rfl
@[simp] theorem State.jumpTo_mem (w : Word) : (s.jumpTo w).mem = s.mem := rfl
@[simp] theorem State.jumpTo_memMap (w : Word) : (s.jumpTo w).memMap = s.memMap := rfl
@[simp] theorem State.jumpTo_now (w : Word) : (s.jumpTo w).now = s.now := rfl
@[simp] theorem State.jumpTo_inputs (w : Word) : (s.jumpTo w).inputs = s.inputs := rfl
@[simp] theorem State.jumpTo_trace (w : Word) : (s.jumpTo w).trace = s.trace := rfl
@[simp] theorem State.jumpTo_draws (w : Word) : (s.jumpTo w).draws = s.draws := rfl
@[simp] theorem State.jumpTo_reg8 (q : Reg8) (w : Word) : (s.jumpTo w).reg8 q = s.reg8 q := by cases q <;> rfl
@[simp] theorem State.jumpTo_flags (w : Word) : (s.jumpTo w).flags = s.flags := rfl
@[simp] theorem State.jumpTo_byteAt (a : Word) (w : Word) : (s.jumpTo w).byteAt a = s.byteAt a := rfl
@[simp] theorem State.jumpTo_kindAt (a : Word) (w : Word) : (s.jumpTo w).kindAt a = s.kindAt a := rfl
@[simp] theorem State.jumpTo_bc (w : Word) : (s.jumpTo w).bc = s.bc := rfl
@[simp] theorem State.jumpTo_de (w : Word) : (s.jumpTo w).de = s.de := rfl
@[simp] theorem State.jumpTo_hl (w : Word) : (s.jumpTo w).hl = s.hl := rfl

/-! ## advance -/

@[simp] theorem State.advance_a (n : Word) : (s.advance n).a = s.a := rfl
@[simp] theorem State.advance_f (n : Word) : (s.advance n).f = s.f := rfl
@[simp] theorem State.advance_b (n : Word) : (s.advance n).b = s.b := rfl
@[simp] theorem State.advance_c (n : Word) : (s.advance n).c = s.c := rfl
@[simp] theorem State.advance_d (n : Word) : (s.advance n).d = s.d := rfl
@[simp] theorem State.advance_e (n : Word) : (s.advance n).e = s.e := rfl
@[simp] theorem State.advance_h (n : Word) : (s.advance n).h = s.h := rfl
@[simp] theorem State.advance_l (n : Word) : (s.advance n).l = s.l := rfl
@[simp] theorem State.advance_a' (n : Word) : (s.advance n).a' = s.a' := rfl
@[simp] theorem State.advance_f' (n : Word) : (s.advance n).f' = s.f' := rfl
@[simp] theorem State.advance_b' (n : Word) : (s.advance n).b' = s.b' := rfl
@[simp] theorem State.advance_c' (n : Word) : (s.advance n).c' = s.c' := rfl
@[simp] theorem State.advance_d' (n : Word) : (s.advance n).d' = s.d' := rfl
@[simp] theorem State.advance_e' (n : Word) : (s.advance n).e' = s.e' := rfl
@[simp] theorem State.advance_h' (n : Word) : (s.advance n).h' = s.h' := rfl
@[simp] theorem State.advance_l' (n : Word) : (s.advance n).l' = s.l' := rfl
@[simp] theorem State.advance_ix (n : Word) : (s.advance n).ix = s.ix := rfl
@[simp] theorem State.advance_iy (n : Word) : (s.advance n).iy = s.iy := rfl
@[simp] theorem State.advance_sp (n : Word) : (s.advance n).sp = s.sp := rfl
@[simp] theorem State.advance_pc (n : Word) : (s.advance n).pc = s.pc + n := rfl
@[simp] theorem State.advance_i (n : Word) : (s.advance n).i = s.i := rfl
@[simp] theorem State.advance_r (n : Word) : (s.advance n).r = s.r := rfl
@[simp] theorem State.advance_iff1 (n : Word) : (s.advance n).iff1 = s.iff1 := rfl
@[simp] theorem State.advance_iff2 (n : Word) : (s.advance n).iff2 = s.iff2 := rfl
@[simp] theorem State.advance_im (n : Word) : (s.advance n).im = s.im := rfl
@[simp] theorem State.advance_halted (n : Word) : (s.advance n).halted = s.halted := rfl
@[simp] theorem State.advance_eiShadow (n : Word) : (s.advance n).eiShadow = s.eiShadow := rfl
@[simp] theorem State.advance_nmiPending (n : Word) : (s.advance n).nmiPending = s.nmiPending := rfl
@[simp] theorem State.advance_mem (n : Word) : (s.advance n).mem = s.mem := rfl
@[simp] theorem State.advance_memMap (n : Word) : (s.advance n).memMap = s.memMap := rfl
@[simp] theorem State.advance_now (n : Word) : (s.advance n).now = s.now := rfl
@[simp] theorem State.advance_inputs (n : Word) : (s.advance n).inputs = s.inputs := rfl
@[simp] theorem State.advance_trace (n : Word) : (s.advance n).trace = s.trace := rfl
@[simp] theorem State.advance_draws (n : Word) : (s.advance n).draws = s.draws := rfl
@[simp] theorem State.advance_reg8 (q : Reg8) (n : Word) : (s.advance n).reg8 q = s.reg8 q := by cases q <;> rfl
@[simp] theorem State.advance_flags (n : Word) : (s.advance n).flags = s.flags := rfl
@[simp] theorem State.advance_byteAt (a : Word) (n : Word) : (s.advance n).byteAt a = s.byteAt a := rfl
@[simp] theorem State.advance_kindAt (a : Word) (n : Word) : (s.advance n).kindAt a = s.kindAt a := rfl
@[simp] theorem State.advance_bc (n : Word) : (s.advance n).bc = s.bc := rfl
@[simp] theorem State.advance_de (n : Word) : (s.advance n).de = s.de := rfl
@[simp] theorem State.advance_hl (n : Word) : (s.advance n).hl = s.hl := rfl

/-! ## countFetches -/

@[simp] theorem State.countFetches_a (n : Nat) : (s.countFetches n).a = s.a := rfl
@[simp] theorem State.countFetches_f (n : Nat) : (s.countFetches n).f = s.f := rfl
@[simp] theorem State.countFetches_b (n : Nat) : (s.countFetches n).b = s.b := rfl
@[simp] theorem State.countFetches_c (n : Nat) : (s.countFetches n).c = s.c := rfl
@[simp] theorem State.countFetches_d (n : Nat) : (s.countFetches n).d = s.d := rfl
@[simp] theorem State.countFetches_e (n : Nat) : (s.countFetches n).e = s.e := rfl
@[simp] theorem State.countFetches_h (n : Nat) : (s.countFetches n).h = s.h := rfl
@[simp] theorem State.countFetches_l (n : Nat) : (s.countFetches n).l = s.l := rfl
@[simp] theorem State.countFetches_a' (n : Nat) : (s.countFetches n).a' = s.a' := rfl
@[simp] theorem State.countFetches_f' (n : Nat) : (s.countFetches n).f' = s.f' := rfl
@[simp] theorem State.countFetches_b' (n : Nat) : (s.countFetches n).b' = s.b' := rfl
@[simp] theorem State.countFetches_c' (n : Nat) : (s.countFetches n).c' = s.c' := rfl
@[simp] theorem State.countFetches_d' (n : Nat) : (s.countFetches n).d' = s.d' := rfl
@[simp] theorem State.countFetches_e' (n : Nat) : (s.countFetches n).e' = s.e' := rfl
@[simp] theorem State.countFetches_h' (n : Nat) : (s.countFetches n).h' = s.h' := rfl
@[simp] theorem State.countFetches_l' (n : Nat) : (s.countFetches n).l' = s.l' := rfl
@[simp] theorem State.countFetches_ix (n : Nat) : (s.countFetches n).ix = s.ix := rfl
@[simp] theorem State.countFetches_iy (n : Nat) : (s.countFetches n).iy = s.iy := rfl
@[simp] theorem State.countFetches_sp (n : Nat) : (s.countFetches n).sp = s.sp := rfl
@[simp] theorem State.countFetches_pc (n : Nat) : (s.countFetches n).pc = s.pc := rfl
@[simp] theorem State.countFetches_i (n : Nat) : (s.countFetches n).i = s.i := rfl
@[simp] theorem State.countFetches_r (n : Nat) : (s.countFetches n).r = refreshAfter n s.r := rfl
@[simp] theorem State.countFetches_iff1 (n : Nat) : (s.countFetches n).iff1 = s.iff1 := rfl
@[simp] theorem State.countFetches_iff2 (n : Nat) : (s.countFetches n).iff2 = s.iff2 := rfl
@[simp] theorem State.countFetches_im (n : Nat) : (s.countFetches n).im = s.im := rfl
@[simp] theorem State.countFetches_halted (n : Nat) : (s.countFetches n).halted = s.halted := rfl
@[simp] theorem State.countFetches_eiShadow (n : Nat) : (s.countFetches n).eiShadow = s.eiShadow := rfl
@[simp] theorem State.countFetches_nmiPending (n : Nat) : (s.countFetches n).nmiPending = s.nmiPending := rfl
@[simp] theorem State.countFetches_mem (n : Nat) : (s.countFetches n).mem = s.mem := rfl
@[simp] theorem State.countFetches_memMap (n : Nat) : (s.countFetches n).memMap = s.memMap := rfl
@[simp] theorem State.countFetches_now (n : Nat) : (s.countFetches n).now = s.now := rfl
@[simp] theorem State.countFetches_inputs (n : Nat) : (s.countFetches n).inputs = s.inputs := rfl
@[simp] theorem State.countFetches_trace (n : Nat) : (s.countFetches n).trace = s.trace := rfl
@[simp] theorem State.countFetches_draws (n : Nat) : (s.countFetches n).draws = s.draws := rfl
@[simp] theorem State.countFetches_reg8 (q : Reg8) (n : Nat) : (s.countFetches n).reg8 q = s.reg8 q := by cases q <;> rfl
@[simp] theorem State.countFetches_flags (n : Nat) : (s.countFetches n).flags = s.flags := rfl
@[simp] theorem State.countFetches_byteAt (a : Word) (n : Nat) : (s.countFetches n).byteAt a = s.byteAt a := rfl
@[simp] theorem State.countFetches_kindAt (a : Word) (n : Nat) : (s.countFetches n).kindAt a = s.kindAt a := rfl
@[simp] theorem State.countFetches_bc (n : Nat) : (s.countFetches n).bc = s.bc := rfl
@[simp] theorem State.countFetches_de (n : Nat) : (s.countFetches n).de = s.de := rfl
@[simp] theorem State.countFetches_hl (n : Nat) : (s.countFetches n).hl = s.hl := rfl

/-! ## setA -/

@[simp] theorem State.setA_a (v : Byte) : (s.setA v).a = v := rfl
@[simp] theorem State.setA_f (v : Byte) : (s.setA v).f = s.f := rfl
@[simp] theorem State.setA_b (v : Byte) : (s.setA v).b = s.b := rfl
@[simp] theorem State.setA_c (v : Byte) : (s.setA v).c = s.c := rfl
@[simp] theorem State.setA_d (v : Byte) : (s.setA v).d = s.d := rfl
@[simp] theorem State.setA_e (v : Byte) : (s.setA v).e = s.e := rfl
@[simp] theorem State.setA_h (v : Byte) : (s.setA v).h = s.h := rfl
@[simp] theorem State.setA_l (v : Byte) : (s.setA v).l = s.l := rfl
@[simp] theorem State.setA_a' (v : Byte) : (s.setA v).a' = s.a' := rfl
@[simp] theorem State.setA_f' (v : Byte) : (s.setA v).f' = s.f' := rfl
@[simp] theorem State.setA_b' (v : Byte) : (s.setA v).b' = s.b' := rfl
@[simp] theorem State.setA_c' (v : Byte) : (s.setA v).c' = s.c' := rfl
@[simp] theorem State.setA_d' (v : Byte) : (s.setA v).d' = s.d' := rfl
@[simp] theorem State.setA_e' (v : Byte) : (s.setA v).e' = s.e' := rfl
@[simp] theorem State.setA_h' (v : Byte) : (s.setA v).h' = s.h' := rfl
@[simp] theorem State.setA_l' (v : Byte) : (s.setA v).l' = s.l' := rfl
@[simp] theorem State.setA_ix (v : Byte) : (s.setA v).ix = s.ix := rfl
@[simp] theorem State.setA_iy (v : Byte) : (s.setA v).iy = s.iy := rfl
@[simp] theorem State.setA_sp (v : Byte) : (s.setA v).sp = s.sp := rfl
@[simp] theorem State.setA_pc (v : Byte) : (s.setA v).pc = s.pc := rfl
@[simp] theorem State.setA_i (v : Byte) : (s.setA v).i = s.i := rfl
@[simp] theorem State.setA_r (v : Byte) : (s.setA v).r = s.r := rfl
@[simp] theorem State.setA_iff1 (v : Byte) : (s.setA v).iff1 = s.iff1 := rfl
@[simp] theorem State.setA_iff2 (v : Byte) : (s.setA v).iff2 = s.iff2 := rfl
@[simp] theorem State.setA_im (v : Byte) : (s.setA v).im = s.im := rfl
@[simp] theorem State.setA_halted (v : Byte) : (s.setA v).halted = s.halted := rfl
@[simp] theorem State.setA_eiShadow (v : Byte) : (s.setA v).eiShadow = s.eiShadow := rfl
@[simp] theorem State.setA_nmiPending (v : Byte) : (s.setA v).nmiPending = s.nmiPending := rfl
@[simp] theorem State.setA_mem (v : Byte) : (s.setA v).mem = s.mem := rfl
@[simp] theorem State.setA_memMap (v : Byte) : (s.setA v).memMap = s.memMap := rfl
@[simp] theorem State.setA_now (v : Byte) : (s.setA v).now = s.now := rfl
@[simp] theorem State.setA_inputs (v : Byte) : (s.setA v).inputs = s.inputs := rfl
@[simp] theorem State.setA_trace (v : Byte) : (s.setA v).trace = s.trace := rfl
@[simp] theorem State.setA_draws (v : Byte) : (s.setA v).draws = s.draws := rfl
@[simp] theorem State.setA_flags (v : Byte) : (s.setA v).flags = s.flags := rfl
@[simp] theorem State.setA_byteAt (a : Word) (v : Byte) : (s.setA v).byteAt a = s.byteAt a := rfl
@[simp] theorem State.setA_kindAt (a : Word) (v : Byte) : (s.setA v).kindAt a = s.kindAt a := rfl
@[simp] theorem State.setA_bc (v : Byte) : (s.setA v).bc = s.bc := rfl
@[simp] theorem State.setA_de (v : Byte) : (s.setA v).de = s.de := rfl
@[simp] theorem State.setA_hl (v : Byte) : (s.setA v).hl = s.hl := rfl

/-! ## setB -/

@[simp] theorem State.setB_a (v : Byte) : (s.setB v).a = s.a := rfl
@[simp] theorem State.setB_f (v : Byte) : (s.setB v).f = s.f := rfl
@[simp] theorem State.setB_b (v : Byte) : (s.setB v).b = v := rfl
@[simp] theorem State.setB_c (v : Byte) : (s.setB v).c = s.c := rfl
@[simp] theorem State.setB_d (v : Byte) : (s.setB v).d = s.d := rfl
@[simp] theorem State.setB_e (v : Byte) : (s.setB v).e = s.e := rfl
@[simp] theorem State.setB_h (v : Byte) : (s.setB v).h = s.h := rfl
@[simp] theorem State.setB_l (v : Byte) : (s.setB v).l = s.l := rfl
@[simp] theorem State.setB_a' (v : Byte) : (s.setB v).a' = s.a' := rfl
@[simp] theorem State.setB_f' (v : Byte) : (s.setB v).f' = s.f' := rfl
@[simp] theorem State.setB_b' (v : Byte) : (s.setB v).b' = s.b' := rfl
@[simp] theorem State.setB_c' (v : Byte) : (s.setB v).c' = s.c' := rfl
@[simp] theorem State.setB_d' (v : Byte) : (s.setB v).d' = s.d' := rfl
@[simp] theorem State.setB_e' (v : Byte) : (s.setB v).e' = s.e' := rfl
@[simp] theorem State.setB_h' (v : Byte) : (s.setB v).h' = s.h' := rfl
@[simp] theorem State.setB_l' (v : Byte) : (s.setB v).l' = s.l' := rfl
@[simp] theorem State.setB_ix (v : Byte) : (s.setB v).ix = s.ix := rfl
@[simp] theorem State.setB_iy (v : Byte) : (s.setB v).iy = s.iy := rfl
@[simp] theorem State.setB_sp (v : Byte) : (s.setB v).sp = s.sp := rfl
@[simp] theorem State.setB_pc (v : Byte) : (s.setB v).pc = s.pc := rfl
@[simp] theorem State.setB_i (v : Byte) : (s.setB v).i = s.i := rfl
@[simp] theorem State.setB_r (v : Byte) : (s.setB v).r = s.r := rfl
@[simp] theorem State.setB_iff1 (v : Byte) : (s.setB v).iff1 = s.iff1 := rfl
@[simp] theorem State.setB_iff2 (v : Byte) : (s.setB v).iff2 = s.iff2 := rfl
@[simp] theorem State.setB_im (v : Byte) : (s.setB v).im = s.im := rfl
@[simp] theorem State.setB_halted (v : Byte) : (s.setB v).halted = s.halted := rfl
@[simp] theorem State.setB_eiShadow (v : Byte) : (s.setB v).eiShadow = s.eiShadow := rfl
@[simp] theorem State.setB_nmiPending (v : Byte) : (s.setB v).nmiPending = s.nmiPending := rfl
@[simp] theorem State.setB_mem (v : Byte) : (s.setB v).mem = s.mem := rfl
@[simp] theorem State.setB_memMap (v : Byte) : (s.setB v).memMap = s.memMap := rfl
@[simp] theorem State.setB_now (v : Byte) : (s.setB v).now = s.now := rfl
@[simp] theorem State.setB_inputs (v : Byte) : (s.setB v).inputs = s.inputs := rfl
@[simp] theorem State.setB_trace (v : Byte) : (s.setB v).trace = s.trace := rfl
@[simp] theorem State.setB_draws (v : Byte) : (s.setB v).draws = s.draws := rfl
@[simp] theorem State.setB_flags (v : Byte) : (s.setB v).flags = s.flags := rfl
@[simp] theorem State.setB_byteAt (a : Word) (v : Byte) : (s.setB v).byteAt a = s.byteAt a := rfl
@[simp] theorem State.setB_kindAt (a : Word) (v : Byte) : (s.setB v).kindAt a = s.kindAt a := rfl
@[simp] theorem State.setB_de (v : Byte) : (s.setB v).de = s.de := rfl
@[simp] theorem State.setB_hl (v : Byte) : (s.setB v).hl = s.hl := rfl

/-! ## setBC -/

@[simp] theorem State.setBC_a (w : Word) : (s.setBC w).a = s.a := rfl
@[simp] theorem State.setBC_f (w : Word) : (s.setBC w).f = s.f := rfl
@[simp] theorem State.setBC_b (w : Word) : (s.setBC w).b = hiByte w := rfl
@[simp] theorem State.setBC_c (w : Word) : (s.setBC w).c = loByte w := rfl
@[simp] theorem State.setBC_d (w : Word) : (s.setBC w).d = s.d := rfl
@[simp] theorem State.setBC_e (w : Word) : (s.setBC w).e = s.e := rfl
@[simp] theorem State.setBC_h (w : Word) : (s.setBC w).h = s.h := rfl
@[simp] theorem State.setBC_l (w : Word) : (s.setBC w).l = s.l := rfl
@[simp] theorem State.setBC_a' (w : Word) : (s.setBC w).a' = s.a' := rfl
@[simp] theorem State.setBC_f' (w : Word) : (s.setBC w).f' = s.f' := rfl
@[simp] theorem State.setBC_b' (w : Word) : (s.setBC w).b' = s.b' := rfl
@[simp] theorem State.setBC_c' (w : Word) : (s.setBC w).c' = s.c' := rfl
@[simp] theorem State.setBC_d' (w : Word) : (s.setBC w).d' = s.d' := rfl
@[simp] theorem State.setBC_e' (w : Word) : (s.setBC w).e' = s.e' := rfl
@[simp] theorem State.setBC_h' (w : Word) : (s.setBC w).h' = s.h' := rfl
@[simp] theorem State.setBC_l' (w : Word) : (s.setBC w).l' = s.l' := rfl
@[simp] theorem State.setBC_ix (w : Word) : (s.setBC w).ix = s.ix := rfl
@[simp] theorem State.setBC_iy (w : Word) : (s.setBC w).iy = s.iy := rfl
@[simp] theorem State.setBC_sp (w : Word) : (s.setBC w).sp = s.sp := rfl
@[simp] theorem State.setBC_pc (w : Word) : (s.setBC w).pc = s.pc := rfl
@[simp] theorem State.setBC_i (w : Word) : (s.setBC w).i = s.i := rfl
@[simp] theorem State.setBC_r (w : Word) : (s.setBC w).r = s.r := rfl
@[simp] theorem State.setBC_iff1 (w : Word) : (s.setBC w).iff1 = s.iff1 := rfl
@[simp] theorem State.setBC_iff2 (w : Word) : (s.setBC w).iff2 = s.iff2 := rfl
@[simp] theorem State.setBC_im (w : Word) : (s.setBC w).im = s.im := rfl
@[simp] theorem State.setBC_halted (w : Word) : (s.setBC w).halted = s.halted := rfl
@[simp] theorem State.setBC_eiShadow (w : Word) : (s.setBC w).eiShadow = s.eiShadow := rfl
@[simp] theorem State.setBC_nmiPending (w : Word) : (s.setBC w).nmiPending = s.nmiPending := rfl
@[simp] theorem State.setBC_mem (w : Word) : (s.setBC w).mem = s.mem := rfl
@[simp] theorem State.setBC_memMap (w : Word) : (s.setBC w).memMap = s.memMap := rfl
@[simp] theorem State.setBC_now (w : Word) : (s.setBC w).now = s.now := rfl
@[simp] theorem State.setBC_inputs (w : Word) : (s.setBC w).inputs = s.inputs := rfl
@[simp] theorem State.setBC_trace (w : Word) : (s.setBC w).trace = s.trace := rfl
@[simp] theorem State.setBC_draws (w : Word) : (s.setBC w).draws = s.draws := rfl
@[simp] theorem State.setBC_flags (w : Word) : (s.setBC w).flags = s.flags := rfl
@[simp] theorem State.setBC_byteAt (a : Word) (w : Word) : (s.setBC w).byteAt a = s.byteAt a := rfl
@[simp] theorem State.setBC_kindAt (a : Word) (w : Word) : (s.setBC w).kindAt a = s.kindAt a := rfl
@[simp] theorem State.setBC_de (w : Word) : (s.setBC w).de = s.de := rfl
@[simp] theorem State.setBC_hl (w : Word) : (s.setBC w).hl = s.hl := rfl

/-! ## setDE -/

@[simp] theorem State.setDE_a (w : Word) : (s.setDE w).a = s.a := rfl
@[simp] theorem State.setDE_f (w : Word) : (s.setDE w).f = s.f := rfl
@[simp] theorem State.setDE_b (w : Word) : (s.setDE w).b = s.b := rfl
@[simp] theorem State.setDE_c (w : Word) : (s.setDE w).c = s.c := rfl
@[simp] theorem State.setDE_d (w : Word) : (s.setDE w).d = hiByte w := rfl
@[simp] theorem State.setDE_e (w : Word) : (s.setDE w).e = loByte w := rfl
@[simp] theorem State.setDE_h (w : Word) : (s.setDE w).h = s.h := rfl
@[simp] theorem State.setDE_l (w : Word) : (s.setDE w).l = s.l := rfl
@[simp] theorem State.setDE_a' (w : Word) : (s.setDE w).a' = s.a' := rfl
@[simp] theorem State.setDE_f' (w : Word) : (s.setDE w).f' = s.f' := rfl
@[simp] theorem State.setDE_b' (w : Word) : (s.setDE w).b' = s.b' := rfl
@[simp] theorem State.setDE_c' (w : Word) : (s.setDE w).c' = s.c' := rfl
@[simp] theorem State.setDE_d' (w : Word) : (s.setDE w).d' = s.d' := rfl
@[simp] theorem State.setDE_e' (w : Word) : (s.setDE w).e' = s.e' := rfl
@[simp] theorem State.setDE_h' (w : Word) : (s.setDE w).h' = s.h' := rfl
@[simp] theorem State.setDE_l' (w : Word) : (s.setDE w).l' = s.l' := rfl
@[simp] theorem State.setDE_ix (w : Word) : (s.setDE w).ix = s.ix := rfl
@[simp] theorem State.setDE_iy (w : Word) : (s.setDE w).iy = s.iy := rfl
@[simp] theorem State.setDE_sp (w : Word) : (s.setDE w).sp = s.sp := rfl
@[simp] theorem State.setDE_pc (w : Word) : (s.setDE w).pc = s.pc := rfl
@[simp] theorem State.setDE_i (w : Word) : (s.setDE w).i = s.i := rfl
@[simp] theorem State.setDE_r (w : Word) : (s.setDE w).r = s.r := rfl
@[simp] theorem State.setDE_iff1 (w : Word) : (s.setDE w).iff1 = s.iff1 := rfl
@[simp] theorem State.setDE_iff2 (w : Word) : (s.setDE w).iff2 = s.iff2 := rfl
@[simp] theorem State.setDE_im (w : Word) : (s.setDE w).im = s.im := rfl
@[simp] theorem State.setDE_halted (w : Word) : (s.setDE w).halted = s.halted := rfl
@[simp] theorem State.setDE_eiShadow (w : Word) : (s.setDE w).eiShadow = s.eiShadow := rfl
@[simp] theorem State.setDE_nmiPending (w : Word) : (s.setDE w).nmiPending = s.nmiPending := rfl
@[simp] theorem State.setDE_mem (w : Word) : (s.setDE w).mem = s.mem := rfl
@[simp] theorem State.setDE_memMap (w : Word) : (s.setDE w).memMap = s.memMap := rfl
@[simp] theorem State.setDE_now (w : Word) : (s.setDE w).now = s.now := rfl
@[simp] theorem State.setDE_inputs (w : Word) : (s.setDE w).inputs = s.inputs := rfl
@[simp] theorem State.setDE_trace (w : Word) : (s.setDE w).trace = s.trace := rfl
@[simp] theorem State.setDE_draws (w : Word) : (s.setDE w).draws = s.draws := rfl
@[simp] theorem State.setDE_flags (w : Word) : (s.setDE w).flags = s.flags := rfl
@[simp] theorem State.setDE_byteAt (a : Word) (w : Word) : (s.setDE w).byteAt a = s.byteAt a := rfl
@[simp] theorem State.setDE_kindAt (a : Word) (w : Word) : (s.setDE w).kindAt a = s.kindAt a := rfl
@[simp] theorem State.setDE_bc (w : Word) : (s.setDE w).bc = s.bc := rfl
@[simp] theorem State.setDE_hl (w : Word) : (s.setDE w).hl = s.hl := rfl

/-! ## setHL -/

@[simp] theorem State.setHL_a (w : Word) : (s.setHL w).a = s.a := rfl
@[simp] theorem State.setHL_f (w : Word) : (s.setHL w).f = s.f := rfl
@[simp] theorem State.setHL_b (w : Word) : (s.setHL w).b = s.b := rfl
@[simp] theorem State.setHL_c (w : Word) : (s.setHL w).c = s.c := rfl
@[simp] theorem State.setHL_d (w : Word) : (s.setHL w).d = s.d := rfl
@[simp] theorem State.setHL_e (w : Word) : (s.setHL w).e = s.e := rfl
@[simp] theorem State.setHL_h (w : Word) : (s.setHL w).h = hiByte w := rfl
@[simp] theorem State.setHL_l (w : Word) : (s.setHL w).l = loByte w := rfl
@[simp] theorem State.setHL_a' (w : Word) : (s.setHL w).a' = s.a' := rfl
@[simp] theorem State.setHL_f' (w : Word) : (s.setHL w).f' = s.f' := rfl
@[simp] theorem State.setHL_b' (w : Word) : (s.setHL w).b' = s.b' := rfl
@[simp] theorem State.setHL_c' (w : Word) : (s.setHL w).c' = s.c' := rfl
@[simp] theorem State.setHL_d' (w : Word) : (s.setHL w).d' = s.d' := rfl
@[simp] theorem State.setHL_e' (w : Word) : (s.setHL w).e' = s.e' := rfl
@[simp] theorem State.setHL_h' (w : Word) : (s.setHL w).h' = s.h' := rfl
@[simp] theorem State.setHL_l' (w : Word) : (s.setHL w).l' = s.l' := rfl
@[simp] theorem State.setHL_ix (w : Word) : (s.setHL w).ix = s.ix := rfl
@[simp] theorem State.setHL_iy (w : Word) : (s.setHL w).iy = s.iy := rfl
@[simp] theorem State.setHL_sp (w : Word) : (s.setHL w).sp = s.sp := rfl
@[simp] theorem State.setHL_pc (w : Word) : (s.setHL w).pc = s.pc := rfl
@[simp] theorem State.setHL_i (w : Word) : (s.setHL w).i = s.i := rfl
@[simp] theorem State.setHL_r (w : Word) : (s.setHL w).r = s.r := rfl
@[simp] theorem State.setHL_iff1 (w : Word) : (s.setHL w).iff1 = s.iff1 := rfl
@[simp] theorem State.setHL_iff2 (w : Word) : (s.setHL w).iff2 = s.iff2 := rfl
@[simp] theorem State.setHL_im (w : Word) : (s.setHL w).im = s.im := rfl
@[simp] theorem State.setHL_halted (w : Word) : (s.setHL w).halted = s.halted := rfl
@[simp] theorem State.setHL_eiShadow (w : Word) : (s.setHL w).eiShadow = s.eiShadow := rfl
@[simp] theorem State.setHL_nmiPending (w : Word) : (s.setHL w).nmiPending = s.nmiPending := rfl
@[simp] theorem State.setHL_mem (w : Word) : (s.setHL w).mem = s.mem := rfl
@[simp] theorem State.setHL_memMap (w : Word) : (s.setHL w).memMap = s.memMap := rfl
@[simp] theorem State.setHL_now (w : Word) : (s.setHL w).now = s.now := rfl
@[simp] theorem State.setHL_inputs (w : Word) : (s.setHL w).inputs = s.inputs := rfl
@[simp] theorem State.setHL_trace (w : Word) : (s.setHL w).trace = s.trace := rfl
@[simp] theorem State.setHL_draws (w : Word) : (s.setHL w).draws = s.draws := rfl
@[simp] theorem State.setHL_flags (w : Word) : (s.setHL w).flags = s.flags := rfl
@[simp] theorem State.setHL_byteAt (a : Word) (w : Word) : (s.setHL w).byteAt a = s.byteAt a := rfl
@[simp] theorem State.setHL_kindAt (a : Word) (w : Word) : (s.setHL w).kindAt a = s.kindAt a := rfl
@[simp] theorem State.setHL_bc (w : Word) : (s.setHL w).bc = s.bc := rfl
@[simp] theorem State.setHL_de (w : Word) : (s.setHL w).de = s.de := rfl

/-! ## setAF -/

@[simp] theorem State.setAF_a (w : Word) : (s.setAF w).a = hiByte w := rfl
@[simp] theorem State.setAF_f (w : Word) : (s.setAF w).f = loByte w := rfl
@[simp] theorem State.setAF_b (w : Word) : (s.setAF w).b = s.b := rfl
@[simp] theorem State.setAF_c (w : Word) : (s.setAF w).c = s.c := rfl
@[simp] theorem State.setAF_d (w : Word) : (s.setAF w).d = s.d := rfl
@[simp] theorem State.setAF_e (w : Word) : (s.setAF w).e = s.e := rfl
@[simp] theorem State.setAF_h (w : Word) : (s.setAF w).h = s.h := rfl
@[simp] theorem State.setAF_l (w : Word) : (s.setAF w).l = s.l := rfl
@[simp] theorem State.setAF_a' (w : Word) : (s.setAF w).a' = s.a' := rfl
@[simp] theorem State.setAF_f' (w : Word) : (s.setAF w).f' = s.f' := rfl
@[simp] theorem State.setAF_b' (w : Word) : (s.setAF w).b' = s.b' := rfl
@[simp] theorem State.setAF_c' (w : Word) : (s.setAF w).c' = s.c' := rfl
@[simp] theorem State.setAF_d' (w : Word) : (s.setAF w).d' = s.d' := rfl
@[simp] theorem State.setAF_e' (w : Word) : (s.setAF w).e' = s.e' := rfl
@[simp] theorem State.setAF_h' (w : Word) : (s.setAF w).h' = s.h' := rfl
@[simp] theorem State.setAF_l' (w : Word) : (s.setAF w).l' = s.l' := rfl
@[simp] theorem State.setAF_ix (w : Word) : (s.setAF w).ix = s.ix := rfl
@[simp] theorem State.setAF_iy (w : Word) : (s.setAF w).iy = s.iy := rfl
@[simp] theorem State.setAF_sp (w : Word) : (s.setAF w).sp = s.sp := rfl
@[simp] theorem State.setAF_pc (w : Word) : (s.setAF w).pc = s.pc := rfl
@[simp] theorem State.setAF_i (w : Word) : (s.setAF w).i = s.i := rfl
@[simp] theorem State.setAF_r (w : Word) : (s.setAF w).r = s.r := rfl
@[simp] theorem State.setAF_iff1 (w : Word) : (s.setAF w).iff1 = s.iff1 := rfl
@[simp] theorem State.setAF_iff2 (w : Word) : (s.setAF w).iff2 = s.iff2 := rfl
@[simp] theorem State.setAF_im (w : Word) : (s.setAF w).im = s.im := rfl
@[simp] theorem State.setAF_halted (w : Word) : (s.setAF w).halted = s.halted := rfl
@[simp] theorem State.setAF_eiShadow (w : Word) : (s.setAF w).eiShadow = s.eiShadow := rfl
@[simp] theorem State.setAF_nmiPending (w : Word) : (s.setAF w).nmiPending = s.nmiPending := rfl
@[simp] theorem State.setAF_mem (w : Word) : (s.setAF w).mem = s.mem := rfl
@[simp] theorem State.setAF_memMap (w : Word) : (s.setAF w).memMap = s.memMap := rfl
@[simp] theorem State.setAF_now (w : Word) : (s.setAF w).now = s.now := rfl
@[simp] theorem State.setAF_inputs (w : Word) : (s.setAF w).inputs = s.inputs := rfl
@[simp] theorem State.setAF_trace (w : Word) : (s.setAF w).trace = s.trace := rfl
@[simp] theorem State.setAF_draws (w : Word) : (s.setAF w).draws = s.draws := rfl
@[simp] theorem State.setAF_byteAt (a : Word) (w : Word) : (s.setAF w).byteAt a = s.byteAt a := rfl
@[simp] theorem State.setAF_kindAt (a : Word) (w : Word) : (s.setAF w).kindAt a = s.kindAt a := rfl
@[simp] theorem State.setAF_bc (w : Word) : (s.setAF w).bc = s.bc := rfl
@[simp] theorem State.setAF_de (w : Word) : (s.setAF w).de = s.de := rfl
@[simp] theorem State.setAF_hl (w : Word) : (s.setAF w).hl = s.hl := rfl

/-! ## setIX -/

@[simp] theorem State.setIX_a (w : Word) : (s.setIX w).a = s.a := rfl
@[simp] theorem State.setIX_f (w : Word) : (s.setIX w).f = s.f := rfl
@[simp] theorem State.setIX_b (w : Word) : (s.setIX w).b = s.b := rfl
@[simp] theorem State.setIX_c (w : Word) : (s.setIX w).c = s.c := rfl
@[simp] theorem State.setIX_d (w : Word) : (s.setIX w).d = s.d := rfl
@[simp] theorem State.setIX_e (w : Word) : (s.setIX w).e = s.e := rfl
@[simp] theorem State.setIX_h (w : Word) : (s.setIX w).h = s.h := rfl
@[simp] theorem State.setIX_l (w : Word) : (s.setIX w).l = s.l := rfl
@[simp] theorem State.setIX_a' (w : Word) : (s.setIX w).a' = s.a' := rfl
@[simp] theorem State.setIX_f' (w : Word) : (s.setIX w).f' = s.f' := rfl
@[simp] theorem State.setIX_b' (w : Word) : (s.setIX w).b' = s.b' := rfl
@[simp] theorem State.setIX_c' (w : Word) : (s.setIX w).c' = s.c' := rfl
@[simp] theorem State.setIX_d' (w : Word) : (s.setIX w).d' = s.d' := rfl
@[simp] theorem State.setIX_e' (w : Word) : (s.setIX w).e' = s.e' := rfl
@[simp] theorem State.setIX_h' (w : Word) : (s.setIX w).h' = s.h' := rfl
@[simp] theorem State.setIX_l' (w : Word) : (s.setIX w).l' = s.l' := rfl
@[simp] theorem State.setIX_ix (w : Word) : (s.setIX w).ix = w := rfl
@[simp] theorem State.setIX_iy (w : Word) : (s.setIX w).iy = s.iy := rfl
@[simp] theorem State.setIX_sp (w : Word) : (s.setIX w).sp = s.sp := rfl
@[simp] theorem State.setIX_pc (w : Word) : (s.setIX w).pc = s.pc := rfl
@[simp] theorem State.setIX_i (w : Word) : (s.setIX w).i = s.i := rfl
@[simp] theorem State.setIX_r (w : Word) : (s.setIX w).r = s.r := rfl
@[simp] theorem State.setIX_iff1 (w : Word) : (s.setIX w).iff1 = s.iff1 := rfl
@[simp] theorem State.setIX_iff2 (w : Word) : (s.setIX w).iff2 = s.iff2 := rfl
@[simp] theorem State.setIX_im (w : Word) : (s.setIX w).im = s.im := rfl
@[simp] theorem State.setIX_halted (w : Word) : (s.setIX w).halted = s.halted := rfl
@[simp] theorem State.setIX_eiShadow (w : Word) : (s.setIX w).eiShadow = s.eiShadow := rfl
@[simp] theorem State.setIX_nmiPending (w : Word) : (s.setIX w).nmiPending = s.nmiPending := rfl
@[simp] theorem State.setIX_mem (w : Word) : (s.setIX w).mem = s.mem := rfl
@[simp] theorem State.setIX_memMap (w : Word) : (s.setIX w).memMap = s.memMap := rfl
@[simp] theorem State.setIX_now (w : Word) : (s.setIX w).now = s.now := rfl
@[simp] theorem State.setIX_inputs (w : Word) : (s.setIX w).inputs = s.inputs := rfl
@[simp] theorem State.setIX_trace (w : Word) : (s.setIX w).trace = s.trace := rfl
@[simp] theorem State.setIX_draws (w : Word) : (s.setIX w).draws = s.draws := rfl
@[simp] theorem State.setIX_reg8 (q : Reg8) (w : Word) : (s.setIX w).reg8 q = s.reg8 q := by cases q <;> rfl
@[simp] theorem State.setIX_flags (w : Word) : (s.setIX w).flags = s.flags := rfl
@[simp] theorem State.setIX_byteAt (a : Word) (w : Word) : (s.setIX w).byteAt a = s.byteAt a := rfl
@[simp] theorem State.setIX_kindAt (a : Word) (w : Word) : (s.setIX w).kindAt a = s.kindAt a := rfl
@[simp] theorem State.setIX_bc (w : Word) : (s.setIX w).bc = s.bc := rfl
@[simp] theorem State.setIX_de (w : Word) : (s.setIX w).de = s.de := rfl
@[simp] theorem State.setIX_hl (w : Word) : (s.setIX w).hl = s.hl := rfl

/-! ## setIY -/

@[simp] theorem State.setIY_a (w : Word) : (s.setIY w).a = s.a := rfl
@[simp] theorem State.setIY_f (w : Word) : (s.setIY w).f = s.f := rfl
@[simp] theorem State.setIY_b (w : Word) : (s.setIY w).b = s.b := rfl
@[simp] theorem State.setIY_c (w : Word) : (s.setIY w).c = s.c := rfl
@[simp] theorem State.setIY_d (w : Word) : (s.setIY w).d = s.d := rfl
@[simp] theorem State.setIY_e (w : Word) : (s.setIY w).e = s.e := rfl
@[simp] theorem State.setIY_h (w : Word) : (s.setIY w).h = s.h := rfl
@[simp] theorem State.setIY_l (w : Word) : (s.setIY w).l = s.l := rfl
@[simp] theorem State.setIY_a' (w : Word) : (s.setIY w).a' = s.a' := rfl
@[simp] theorem State.setIY_f' (w : Word) : (s.setIY w).f' = s.f' := rfl
@[simp] theorem State.setIY_b' (w : Word) : (s.setIY w).b' = s.b' := rfl
@[simp] theorem State.setIY_c' (w : Word) : (s.setIY w).c' = s.c' := rfl
@[simp] theorem State.setIY_d' (w : Word) : (s.setIY w).d' = s.d' := rfl
@[simp] theorem State.setIY_e' (w : Word) : (s.setIY w).e' = s.e' := rfl
@[simp] theorem State.setIY_h' (w : Word) : (s.setIY w).h' = s.h' := rfl
@[simp] theorem State.setIY_l' (w : Word) : (s.setIY w).l' = s.l' := rfl
@[simp] theorem State.setIY_ix (w : Word) : (s.setIY w).ix = s.ix := rfl
@[simp] theorem State.setIY_iy (w : Word) : (s.setIY w).iy = w := rfl
@[simp] theorem State.setIY_sp (w : Word) : (s.setIY w).sp = s.sp := rfl
@[simp] theorem State.setIY_pc (w : Word) : (s.setIY w).pc = s.pc := rfl
@[simp] theorem State.setIY_i (w : Word) : (s.setIY w).i = s.i := rfl
@[simp] theorem State.setIY_r (w : Word) : (s.setIY w).r = s.r := rfl
@[simp] theorem State.setIY_iff1 (w : Word) : (s.setIY w).iff1 = s.iff1 := rfl
@[simp] theorem State.setIY_iff2 (w : Word) : (s.setIY w).iff2 = s.iff2 := rfl
@[simp] theorem State.setIY_im (w : Word) : (s.setIY w).im = s.im := rfl
@[simp] theorem State.setIY_halted (w : Word) : (s.setIY w).halted = s.halted := rfl
@[simp] theorem State.setIY_eiShadow (w : Word) : (s.setIY w).eiShadow = s.eiShadow := rfl
@[simp] theorem State.setIY_nmiPending (w : Word) : (s.setIY w).nmiPending = s.nmiPending := rfl
@[simp] theorem State.setIY_mem (w : Word) : (s.setIY w).mem = s.mem := rfl
@[simp] theorem State.setIY_memMap (w : Word) : (s.setIY w).memMap = s.memMap := rfl
@[simp] theorem State.setIY_now (w : Word) : (s.setIY w).now = s.now := rfl
@[simp] theorem State.setIY_inputs (w : Word) : (s.setIY w).inputs = s.inputs := rfl
@[simp] theorem State.setIY_trace (w : Word) : (s.setIY w).trace = s.trace := rfl
@[simp] theorem State.setIY_draws (w : Word) : (s.setIY w).draws = s.draws := rfl
@[simp] theorem State.setIY_reg8 (q : Reg8) (w : Word) : (s.setIY w).reg8 q = s.reg8 q := by cases q <;> rfl
@[simp] theorem State.setIY_flags (w : Word) : (s.setIY w).flags = s.flags := rfl
@[simp] theorem State.setIY_byteAt (a : Word) (w : Word) : (s.setIY w).byteAt a = s.byteAt a := rfl
@[simp] theorem State.setIY_kindAt (a : Word) (w : Word) : (s.setIY w).kindAt a = s.kindAt a := rfl
@[simp] theorem State.setIY_bc (w : Word) : (s.setIY w).bc = s.bc := rfl
@[simp] theorem State.setIY_de (w : Word) : (s.setIY w).de = s.de := rfl
@[simp] theorem State.setIY_hl (w : Word) : (s.setIY w).hl = s.hl := rfl

/-! ## setSP -/

@[simp] theorem State.setSP_a (w : Word) : (s.setSP w).a = s.a := rfl
@[simp] theorem State.setSP_f (w : Word) : (s.setSP w).f = s.f := rfl
@[simp] theorem State.setSP_b (w : Word) : (s.setSP w).b = s.b := rfl
@[simp] theorem State.setSP_c (w : Word) : (s.setSP w).c = s.c := rfl
@[simp] theorem State.setSP_d (w : Word) : (s.setSP w).d = s.d := rfl
@[simp] theorem State.setSP_e (w : Word) : (s.setSP w).e = s.e := rfl
@[simp] theorem State.setSP_h (w : Word) : (s.setSP w).h = s.h := rfl
@[simp] theorem State.setSP_l (w : Word) : (s.setSP w).l = s.l := rfl
@[simp] theorem State.setSP_a' (w : Word) : (s.setSP w).a' = s.a' := rfl
@[simp] theorem State.setSP_f' (w : Word) : (s.setSP w).f' = s.f' := rfl
@[simp] theorem State.setSP_b' (w : Word) : (s.setSP w).b' = s.b' := rfl
@[simp] theorem State.setSP_c' (w : Word) : (s.setSP w).c' = s.c' := rfl
@[simp] theorem State.setSP_d' (w : Word) : (s.setSP w).d' = s.d' := rfl
@[simp] theorem State.setSP_e' (w : Word) : (s.setSP w).e' = s.e' := rfl
@[simp] theorem State.setSP_h' (w : Word) : (s.setSP w).h' = s.h' := rfl
@[simp] theorem State.setSP_l' (w : Word) : (s.setSP w).l' = s.l' := rfl
@[simp] theorem State.setSP_ix (w : Word) : (s.setSP w).ix = s.ix := rfl
@[simp] theorem State.setSP_iy (w : Word) : (s.setSP w).iy = s.iy := rfl
@[simp] theorem State.setSP_sp (w : Word) : (s.setSP w).sp = w := rfl
@[simp] theorem State.setSP_pc (w : Word) : (s.setSP w).pc = s.pc := rfl
@[simp] theorem State.setSP_i (w : Word) : (s.setSP w).i = s.i := rfl
@[simp] theorem State.setSP_r (w : Word) : (s.setSP w).r = s.r := rfl
@[simp] theorem State.setSP_iff1 (w : Word) : (s.setSP w).iff1 = s.iff1 := rfl
@[simp] theorem State.setSP_iff2 (w : Word) : (s.setSP w).iff2 = s.iff2 := rfl
@[simp] theorem State.setSP_im (w : Word) : (s.setSP w).im = s.im := rfl
@[simp] theorem State.setSP_halted (w : Word) : (s.setSP w).halted = s.halted := rfl
@[simp] theorem State.setSP_eiShadow (w : Word) : (s.setSP w).eiShadow = s.eiShadow := rfl
@[simp] theorem State.setSP_nmiPending (w : Word) : (s.setSP w).nmiPending = s.nmiPending := rfl
@[simp] theorem State.setSP_mem (w : Word) : (s.setSP w).mem = s.mem := rfl
@[simp] theorem State.setSP_memMap (w : Word) : (s.setSP w).memMap = s.memMap := rfl
@[simp] theorem State.setSP_now (w : Word) : (s.setSP w).now = s.now := rfl
@[simp] theorem State.setSP_inputs (w : Word) : (s.setSP w).inputs = s.inputs := rfl
@[simp] theorem State.setSP_trace (w : Word) : (s.setSP w).trace = s.trace := rfl
@[simp] theorem State.setSP_draws (w : Word) : (s.setSP w).draws = s.draws := rfl
@[simp] theorem State.setSP_reg8 (q : Reg8) (w : Word) : (s.setSP w).reg8 q = s.reg8 q := by cases q <;> rfl
@[simp] theorem State.setSP_flags (w : Word) : (s.setSP w).flags = s.flags := rfl
@[simp] theorem State.setSP_byteAt (a : Word) (w : Word) : (s.setSP w).byteAt a = s.byteAt a := rfl
@[simp] theorem State.setSP_kindAt (a : Word) (w : Word) : (s.setSP w).kindAt a = s.kindAt a := rfl
@[simp] theorem State.setSP_bc (w : Word) : (s.setSP w).bc = s.bc := rfl
@[simp] theorem State.setSP_de (w : Word) : (s.setSP w).de = s.de := rfl
@[simp] theorem State.setSP_hl (w : Word) : (s.setSP w).hl = s.hl := rfl

/-! ## anyBit -/

@[simp] theorem State.anyBit_a : s.anyBit.2.a = s.a := rfl
@[simp] theorem State.anyBit_f : s.anyBit.2.f = s.f := rfl
@[simp] theorem State.anyBit_b : s.anyBit.2.b = s.b := rfl
@[simp] theorem State.anyBit_c : s.anyBit.2.c = s.c := rfl
@[simp] theorem State.anyBit_d : s.anyBit.2.d = s.d := rfl
@[simp] theorem State.anyBit_e : s.anyBit.2.e = s.e := rfl
@[simp] theorem State.anyBit_h : s.anyBit.2.h = s.h := rfl
@[simp] theorem State.anyBit_l : s.anyBit.2.l = s.l := rfl
@[simp] theorem State.anyBit_a' : s.anyBit.2.a' = s.a' := rfl
@[simp] theorem State.anyBit_f' : s.anyBit.2.f' = s.f' := rfl
@[simp] theorem State.anyBit_b' : s.anyBit.2.b' = s.b' := rfl
@[simp] theorem State.anyBit_c' : s.anyBit.2.c' = s.c' := rfl
@[simp] theorem State.anyBit_d' : s.anyBit.2.d' = s.d' := rfl
@[simp] theorem State.anyBit_e' : s.anyBit.2.e' = s.e' := rfl
@[simp] theorem State.anyBit_h' : s.anyBit.2.h' = s.h' := rfl
@[simp] theorem State.anyBit_l' : s.anyBit.2.l' = s.l' := rfl
@[simp] theorem State.anyBit_ix : s.anyBit.2.ix = s.ix := rfl
@[simp] theorem State.anyBit_iy : s.anyBit.2.iy = s.iy := rfl
@[simp] theorem State.anyBit_sp : s.anyBit.2.sp = s.sp := rfl
@[simp] theorem State.anyBit_pc : s.anyBit.2.pc = s.pc := rfl
@[simp] theorem State.anyBit_i : s.anyBit.2.i = s.i := rfl
@[simp] theorem State.anyBit_r : s.anyBit.2.r = s.r := rfl
@[simp] theorem State.anyBit_iff1 : s.anyBit.2.iff1 = s.iff1 := rfl
@[simp] theorem State.anyBit_iff2 : s.anyBit.2.iff2 = s.iff2 := rfl
@[simp] theorem State.anyBit_im : s.anyBit.2.im = s.im := rfl
@[simp] theorem State.anyBit_halted : s.anyBit.2.halted = s.halted := rfl
@[simp] theorem State.anyBit_eiShadow : s.anyBit.2.eiShadow = s.eiShadow := rfl
@[simp] theorem State.anyBit_nmiPending : s.anyBit.2.nmiPending = s.nmiPending := rfl
@[simp] theorem State.anyBit_mem : s.anyBit.2.mem = s.mem := rfl
@[simp] theorem State.anyBit_memMap : s.anyBit.2.memMap = s.memMap := rfl
@[simp] theorem State.anyBit_now : s.anyBit.2.now = s.now := rfl
@[simp] theorem State.anyBit_inputs : s.anyBit.2.inputs = s.inputs := rfl
@[simp] theorem State.anyBit_trace : s.anyBit.2.trace = s.trace := rfl
@[simp] theorem State.anyBit_draws : s.anyBit.2.draws = s.draws + 1 := rfl
@[simp] theorem State.anyBit_reg8 (q : Reg8)  : s.anyBit.2.reg8 q = s.reg8 q := by cases q <;> rfl
@[simp] theorem State.anyBit_flags : s.anyBit.2.flags = s.flags := rfl
@[simp] theorem State.anyBit_byteAt (a : Word)  : s.anyBit.2.byteAt a = s.byteAt a := rfl
@[simp] theorem State.anyBit_kindAt (a : Word)  : s.anyBit.2.kindAt a = s.kindAt a := rfl
@[simp] theorem State.anyBit_bc : s.anyBit.2.bc = s.bc := rfl
@[simp] theorem State.anyBit_de : s.anyBit.2.de = s.de := rfl
@[simp] theorem State.anyBit_hl : s.anyBit.2.hl = s.hl := rfl

/-! ## anyByte -/

@[simp] theorem State.anyByte_a : s.anyByte.2.a = s.a := rfl
@[simp] theorem State.anyByte_f : s.anyByte.2.f = s.f := rfl
@[simp] theorem State.anyByte_b : s.anyByte.2.b = s.b := rfl
@[simp] theorem State.anyByte_c : s.anyByte.2.c = s.c := rfl
@[simp] theorem State.anyByte_d : s.anyByte.2.d = s.d := rfl
@[simp] theorem State.anyByte_e : s.anyByte.2.e = s.e := rfl
@[simp] theorem State.anyByte_h : s.anyByte.2.h = s.h := rfl
@[simp] theorem State.anyByte_l : s.anyByte.2.l = s.l := rfl
@[simp] theorem State.anyByte_a' : s.anyByte.2.a' = s.a' := rfl
@[simp] theorem State.anyByte_f' : s.anyByte.2.f' = s.f' := rfl
@[simp] theorem State.anyByte_b' : s.anyByte.2.b' = s.b' := rfl
@[simp] theorem State.anyByte_c' : s.anyByte.2.c' = s.c' := rfl
@[simp] theorem State.anyByte_d' : s.anyByte.2.d' = s.d' := rfl
@[simp] theorem State.anyByte_e' : s.anyByte.2.e' = s.e' := rfl
@[simp] theorem State.anyByte_h' : s.anyByte.2.h' = s.h' := rfl
@[simp] theorem State.anyByte_l' : s.anyByte.2.l' = s.l' := rfl
@[simp] theorem State.anyByte_ix : s.anyByte.2.ix = s.ix := rfl
@[simp] theorem State.anyByte_iy : s.anyByte.2.iy = s.iy := rfl
@[simp] theorem State.anyByte_sp : s.anyByte.2.sp = s.sp := rfl
@[simp] theorem State.anyByte_pc : s.anyByte.2.pc = s.pc := rfl
@[simp] theorem State.anyByte_i : s.anyByte.2.i = s.i := rfl
@[simp] theorem State.anyByte_r : s.anyByte.2.r = s.r := rfl
@[simp] theorem State.anyByte_iff1 : s.anyByte.2.iff1 = s.iff1 := rfl
@[simp] theorem State.anyByte_iff2 : s.anyByte.2.iff2 = s.iff2 := rfl
@[simp] theorem State.anyByte_im : s.anyByte.2.im = s.im := rfl
@[simp] theorem State.anyByte_halted : s.anyByte.2.halted = s.halted := rfl
@[simp] theorem State.anyByte_eiShadow : s.anyByte.2.eiShadow = s.eiShadow := rfl
@[simp] theorem State.anyByte_nmiPending : s.anyByte.2.nmiPending = s.nmiPending := rfl
@[simp] theorem State.anyByte_mem : s.anyByte.2.mem = s.mem := rfl
@[simp] theorem State.anyByte_memMap : s.anyByte.2.memMap = s.memMap := rfl
@[simp] theorem State.anyByte_now : s.anyByte.2.now = s.now := rfl
@[simp] theorem State.anyByte_inputs : s.anyByte.2.inputs = s.inputs := rfl
@[simp] theorem State.anyByte_trace : s.anyByte.2.trace = s.trace := rfl
@[simp] theorem State.anyByte_draws : s.anyByte.2.draws = s.draws + 1 := rfl
@[simp] theorem State.anyByte_reg8 (q : Reg8)  : s.anyByte.2.reg8 q = s.reg8 q := by cases q <;> rfl
@[simp] theorem State.anyByte_flags : s.anyByte.2.flags = s.flags := rfl
@[simp] theorem State.anyByte_byteAt (a : Word)  : s.anyByte.2.byteAt a = s.byteAt a := rfl
@[simp] theorem State.anyByte_kindAt (a : Word)  : s.anyByte.2.kindAt a = s.kindAt a := rfl
@[simp] theorem State.anyByte_bc : s.anyByte.2.bc = s.bc := rfl
@[simp] theorem State.anyByte_de : s.anyByte.2.de = s.de := rfl
@[simp] theorem State.anyByte_hl : s.anyByte.2.hl = s.hl := rfl

/-! ## writeFlags -/

@[simp] theorem State.writeFlags_a (x : FlagBits) : (s.writeFlags x).a = s.a := rfl
@[simp] theorem State.writeFlags_b (x : FlagBits) : (s.writeFlags x).b = s.b := rfl
@[simp] theorem State.writeFlags_c (x : FlagBits) : (s.writeFlags x).c = s.c := rfl
@[simp] theorem State.writeFlags_d (x : FlagBits) : (s.writeFlags x).d = s.d := rfl
@[simp] theorem State.writeFlags_e (x : FlagBits) : (s.writeFlags x).e = s.e := rfl
@[simp] theorem State.writeFlags_h (x : FlagBits) : (s.writeFlags x).h = s.h := rfl
@[simp] theorem State.writeFlags_l (x : FlagBits) : (s.writeFlags x).l = s.l := rfl
@[simp] theorem State.writeFlags_a' (x : FlagBits) : (s.writeFlags x).a' = s.a' := rfl
@[simp] theorem State.writeFlags_f' (x : FlagBits) : (s.writeFlags x).f' = s.f' := rfl
@[simp] theorem State.writeFlags_b' (x : FlagBits) : (s.writeFlags x).b' = s.b' := rfl
@[simp] theorem State.writeFlags_c' (x : FlagBits) : (s.writeFlags x).c' = s.c' := rfl
@[simp] theorem State.writeFlags_d' (x : FlagBits) : (s.writeFlags x).d' = s.d' := rfl
@[simp] theorem State.writeFlags_e' (x : FlagBits) : (s.writeFlags x).e' = s.e' := rfl
@[simp] theorem State.writeFlags_h' (x : FlagBits) : (s.writeFlags x).h' = s.h' := rfl
@[simp] theorem State.writeFlags_l' (x : FlagBits) : (s.writeFlags x).l' = s.l' := rfl
@[simp] theorem State.writeFlags_ix (x : FlagBits) : (s.writeFlags x).ix = s.ix := rfl
@[simp] theorem State.writeFlags_iy (x : FlagBits) : (s.writeFlags x).iy = s.iy := rfl
@[simp] theorem State.writeFlags_sp (x : FlagBits) : (s.writeFlags x).sp = s.sp := rfl
@[simp] theorem State.writeFlags_pc (x : FlagBits) : (s.writeFlags x).pc = s.pc := rfl
@[simp] theorem State.writeFlags_i (x : FlagBits) : (s.writeFlags x).i = s.i := rfl
@[simp] theorem State.writeFlags_r (x : FlagBits) : (s.writeFlags x).r = s.r := rfl
@[simp] theorem State.writeFlags_iff1 (x : FlagBits) : (s.writeFlags x).iff1 = s.iff1 := rfl
@[simp] theorem State.writeFlags_iff2 (x : FlagBits) : (s.writeFlags x).iff2 = s.iff2 := rfl
@[simp] theorem State.writeFlags_im (x : FlagBits) : (s.writeFlags x).im = s.im := rfl
@[simp] theorem State.writeFlags_halted (x : FlagBits) : (s.writeFlags x).halted = s.halted := rfl
@[simp] theorem State.writeFlags_eiShadow (x : FlagBits) : (s.writeFlags x).eiShadow = s.eiShadow := rfl
@[simp] theorem State.writeFlags_nmiPending (x : FlagBits) : (s.writeFlags x).nmiPending = s.nmiPending := rfl
@[simp] theorem State.writeFlags_mem (x : FlagBits) : (s.writeFlags x).mem = s.mem := rfl
@[simp] theorem State.writeFlags_memMap (x : FlagBits) : (s.writeFlags x).memMap = s.memMap := rfl
@[simp] theorem State.writeFlags_now (x : FlagBits) : (s.writeFlags x).now = s.now := rfl
@[simp] theorem State.writeFlags_inputs (x : FlagBits) : (s.writeFlags x).inputs = s.inputs := rfl
@[simp] theorem State.writeFlags_trace (x : FlagBits) : (s.writeFlags x).trace = s.trace := rfl
@[simp] theorem State.writeFlags_draws (x : FlagBits) : (s.writeFlags x).draws = s.draws + 2 := rfl
@[simp] theorem State.writeFlags_reg8 (q : Reg8) (x : FlagBits) : (s.writeFlags x).reg8 q = s.reg8 q := by cases q <;> rfl
@[simp] theorem State.writeFlags_byteAt (a : Word) (x : FlagBits) : (s.writeFlags x).byteAt a = s.byteAt a := rfl
@[simp] theorem State.writeFlags_kindAt (a : Word) (x : FlagBits) : (s.writeFlags x).kindAt a = s.kindAt a := rfl
@[simp] theorem State.writeFlags_bc (x : FlagBits) : (s.writeFlags x).bc = s.bc := rfl
@[simp] theorem State.writeFlags_de (x : FlagBits) : (s.writeFlags x).de = s.de := rfl
@[simp] theorem State.writeFlags_hl (x : FlagBits) : (s.writeFlags x).hl = s.hl := rfl

/-! ## sample -/

@[simp] theorem State.sample_a : s.sample.a = s.a := rfl
@[simp] theorem State.sample_f : s.sample.f = s.f := rfl
@[simp] theorem State.sample_b : s.sample.b = s.b := rfl
@[simp] theorem State.sample_c : s.sample.c = s.c := rfl
@[simp] theorem State.sample_d : s.sample.d = s.d := rfl
@[simp] theorem State.sample_e : s.sample.e = s.e := rfl
@[simp] theorem State.sample_h : s.sample.h = s.h := rfl
@[simp] theorem State.sample_l : s.sample.l = s.l := rfl
@[simp] theorem State.sample_a' : s.sample.a' = s.a' := rfl
@[simp] theorem State.sample_f' : s.sample.f' = s.f' := rfl
@[simp] theorem State.sample_b' : s.sample.b' = s.b' := rfl
@[simp] theorem State.sample_c' : s.sample.c' = s.c' := rfl
@[simp] theorem State.sample_d' : s.sample.d' = s.d' := rfl
@[simp] theorem State.sample_e' : s.sample.e' = s.e' := rfl
@[simp] theorem State.sample_h' : s.sample.h' = s.h' := rfl
@[simp] theorem State.sample_l' : s.sample.l' = s.l' := rfl
@[simp] theorem State.sample_ix : s.sample.ix = s.ix := rfl
@[simp] theorem State.sample_iy : s.sample.iy = s.iy := rfl
@[simp] theorem State.sample_sp : s.sample.sp = s.sp := rfl
@[simp] theorem State.sample_pc : s.sample.pc = s.pc := rfl
@[simp] theorem State.sample_i : s.sample.i = s.i := rfl
@[simp] theorem State.sample_r : s.sample.r = s.r := rfl
@[simp] theorem State.sample_iff1 : s.sample.iff1 = s.iff1 := rfl
@[simp] theorem State.sample_iff2 : s.sample.iff2 = s.iff2 := rfl
@[simp] theorem State.sample_im : s.sample.im = s.im := rfl
@[simp] theorem State.sample_halted : s.sample.halted = s.halted := rfl
@[simp] theorem State.sample_eiShadow : s.sample.eiShadow = s.eiShadow := rfl
@[simp] theorem State.sample_nmiPending : s.sample.nmiPending = (s.nmiPending || s.nextInputs.nmiEdge) := rfl
@[simp] theorem State.sample_mem : s.sample.mem = s.mem := rfl
@[simp] theorem State.sample_memMap : s.sample.memMap = s.memMap := rfl
@[simp] theorem State.sample_now : s.sample.now = s.nextInputs := rfl
@[simp] theorem State.sample_inputs : s.sample.inputs = s.inputs.tail := rfl
@[simp] theorem State.sample_trace : s.sample.trace = s.trace := rfl
@[simp] theorem State.sample_draws : s.sample.draws = s.draws := rfl
@[simp] theorem State.sample_reg8 (q : Reg8)  : s.sample.reg8 q = s.reg8 q := by cases q <;> rfl
@[simp] theorem State.sample_flags : s.sample.flags = s.flags := rfl
@[simp] theorem State.sample_byteAt (a : Word)  : s.sample.byteAt a = s.byteAt a := rfl
@[simp] theorem State.sample_kindAt (a : Word)  : s.sample.kindAt a = s.kindAt a := rfl
@[simp] theorem State.sample_bc : s.sample.bc = s.bc := rfl
@[simp] theorem State.sample_de : s.sample.de = s.de := rfl
@[simp] theorem State.sample_hl : s.sample.hl = s.hl := rfl

/-! ## portIn -/

@[simp] theorem State.portIn_a (w : Word) : (s.portIn w).2.a = s.a := rfl
@[simp] theorem State.portIn_f (w : Word) : (s.portIn w).2.f = s.f := rfl
@[simp] theorem State.portIn_b (w : Word) : (s.portIn w).2.b = s.b := rfl
@[simp] theorem State.portIn_c (w : Word) : (s.portIn w).2.c = s.c := rfl
@[simp] theorem State.portIn_d (w : Word) : (s.portIn w).2.d = s.d := rfl
@[simp] theorem State.portIn_e (w : Word) : (s.portIn w).2.e = s.e := rfl
@[simp] theorem State.portIn_h (w : Word) : (s.portIn w).2.h = s.h := rfl
@[simp] theorem State.portIn_l (w : Word) : (s.portIn w).2.l = s.l := rfl
@[simp] theorem State.portIn_a' (w : Word) : (s.portIn w).2.a' = s.a' := rfl
@[simp] theorem State.portIn_f' (w : Word) : (s.portIn w).2.f' = s.f' := rfl
@[simp] theorem State.portIn_b' (w : Word) : (s.portIn w).2.b' = s.b' := rfl
@[simp] theorem State.portIn_c' (w : Word) : (s.portIn w).2.c' = s.c' := rfl
@[simp] theorem State.portIn_d' (w : Word) : (s.portIn w).2.d' = s.d' := rfl
@[simp] theorem State.portIn_e' (w : Word) : (s.portIn w).2.e' = s.e' := rfl
@[simp] theorem State.portIn_h' (w : Word) : (s.portIn w).2.h' = s.h' := rfl
@[simp] theorem State.portIn_l' (w : Word) : (s.portIn w).2.l' = s.l' := rfl
@[simp] theorem State.portIn_ix (w : Word) : (s.portIn w).2.ix = s.ix := rfl
@[simp] theorem State.portIn_iy (w : Word) : (s.portIn w).2.iy = s.iy := rfl
@[simp] theorem State.portIn_sp (w : Word) : (s.portIn w).2.sp = s.sp := rfl
@[simp] theorem State.portIn_pc (w : Word) : (s.portIn w).2.pc = s.pc := rfl
@[simp] theorem State.portIn_i (w : Word) : (s.portIn w).2.i = s.i := rfl
@[simp] theorem State.portIn_r (w : Word) : (s.portIn w).2.r = s.r := rfl
@[simp] theorem State.portIn_iff1 (w : Word) : (s.portIn w).2.iff1 = s.iff1 := rfl
@[simp] theorem State.portIn_iff2 (w : Word) : (s.portIn w).2.iff2 = s.iff2 := rfl
@[simp] theorem State.portIn_im (w : Word) : (s.portIn w).2.im = s.im := rfl
@[simp] theorem State.portIn_halted (w : Word) : (s.portIn w).2.halted = s.halted := rfl
@[simp] theorem State.portIn_eiShadow (w : Word) : (s.portIn w).2.eiShadow = s.eiShadow := rfl
@[simp] theorem State.portIn_nmiPending (w : Word) : (s.portIn w).2.nmiPending = s.nmiPending := rfl
@[simp] theorem State.portIn_mem (w : Word) : (s.portIn w).2.mem = s.mem := rfl
@[simp] theorem State.portIn_memMap (w : Word) : (s.portIn w).2.memMap = s.memMap := rfl
@[simp] theorem State.portIn_now (w : Word) : (s.portIn w).2.now = s.now := rfl
@[simp] theorem State.portIn_inputs (w : Word) : (s.portIn w).2.inputs = s.inputs := rfl
@[simp] theorem State.portIn_trace (w : Word) : (s.portIn w).2.trace = s.trace ++ [.portRead w (s.portValue w)] := rfl
@[simp] theorem State.portIn_draws (w : Word) : (s.portIn w).2.draws = s.draws := rfl
@[simp] theorem State.portIn_reg8 (q : Reg8) (w : Word) : (s.portIn w).2.reg8 q = s.reg8 q := by cases q <;> rfl
@[simp] theorem State.portIn_flags (w : Word) : (s.portIn w).2.flags = s.flags := rfl
@[simp] theorem State.portIn_byteAt (a : Word) (w : Word) : (s.portIn w).2.byteAt a = s.byteAt a := rfl
@[simp] theorem State.portIn_kindAt (a : Word) (w : Word) : (s.portIn w).2.kindAt a = s.kindAt a := rfl
@[simp] theorem State.portIn_bc (w : Word) : (s.portIn w).2.bc = s.bc := rfl
@[simp] theorem State.portIn_de (w : Word) : (s.portIn w).2.de = s.de := rfl
@[simp] theorem State.portIn_hl (w : Word) : (s.portIn w).2.hl = s.hl := rfl

/-! ## portOut -/

@[simp] theorem State.portOut_a (w : Word) (v : Byte) : (s.portOut w v).a = s.a := rfl
@[simp] theorem State.portOut_f (w : Word) (v : Byte) : (s.portOut w v).f = s.f := rfl
@[simp] theorem State.portOut_b (w : Word) (v : Byte) : (s.portOut w v).b = s.b := rfl
@[simp] theorem State.portOut_c (w : Word) (v : Byte) : (s.portOut w v).c = s.c := rfl
@[simp] theorem State.portOut_d (w : Word) (v : Byte) : (s.portOut w v).d = s.d := rfl
@[simp] theorem State.portOut_e (w : Word) (v : Byte) : (s.portOut w v).e = s.e := rfl
@[simp] theorem State.portOut_h (w : Word) (v : Byte) : (s.portOut w v).h = s.h := rfl
@[simp] theorem State.portOut_l (w : Word) (v : Byte) : (s.portOut w v).l = s.l := rfl
@[simp] theorem State.portOut_a' (w : Word) (v : Byte) : (s.portOut w v).a' = s.a' := rfl
@[simp] theorem State.portOut_f' (w : Word) (v : Byte) : (s.portOut w v).f' = s.f' := rfl
@[simp] theorem State.portOut_b' (w : Word) (v : Byte) : (s.portOut w v).b' = s.b' := rfl
@[simp] theorem State.portOut_c' (w : Word) (v : Byte) : (s.portOut w v).c' = s.c' := rfl
@[simp] theorem State.portOut_d' (w : Word) (v : Byte) : (s.portOut w v).d' = s.d' := rfl
@[simp] theorem State.portOut_e' (w : Word) (v : Byte) : (s.portOut w v).e' = s.e' := rfl
@[simp] theorem State.portOut_h' (w : Word) (v : Byte) : (s.portOut w v).h' = s.h' := rfl
@[simp] theorem State.portOut_l' (w : Word) (v : Byte) : (s.portOut w v).l' = s.l' := rfl
@[simp] theorem State.portOut_ix (w : Word) (v : Byte) : (s.portOut w v).ix = s.ix := rfl
@[simp] theorem State.portOut_iy (w : Word) (v : Byte) : (s.portOut w v).iy = s.iy := rfl
@[simp] theorem State.portOut_sp (w : Word) (v : Byte) : (s.portOut w v).sp = s.sp := rfl
@[simp] theorem State.portOut_pc (w : Word) (v : Byte) : (s.portOut w v).pc = s.pc := rfl
@[simp] theorem State.portOut_i (w : Word) (v : Byte) : (s.portOut w v).i = s.i := rfl
@[simp] theorem State.portOut_r (w : Word) (v : Byte) : (s.portOut w v).r = s.r := rfl
@[simp] theorem State.portOut_iff1 (w : Word) (v : Byte) : (s.portOut w v).iff1 = s.iff1 := rfl
@[simp] theorem State.portOut_iff2 (w : Word) (v : Byte) : (s.portOut w v).iff2 = s.iff2 := rfl
@[simp] theorem State.portOut_im (w : Word) (v : Byte) : (s.portOut w v).im = s.im := rfl
@[simp] theorem State.portOut_halted (w : Word) (v : Byte) : (s.portOut w v).halted = s.halted := rfl
@[simp] theorem State.portOut_eiShadow (w : Word) (v : Byte) : (s.portOut w v).eiShadow = s.eiShadow := rfl
@[simp] theorem State.portOut_nmiPending (w : Word) (v : Byte) : (s.portOut w v).nmiPending = s.nmiPending := rfl
@[simp] theorem State.portOut_mem (w : Word) (v : Byte) : (s.portOut w v).mem = s.mem := rfl
@[simp] theorem State.portOut_memMap (w : Word) (v : Byte) : (s.portOut w v).memMap = s.memMap := rfl
@[simp] theorem State.portOut_now (w : Word) (v : Byte) : (s.portOut w v).now = s.now := rfl
@[simp] theorem State.portOut_inputs (w : Word) (v : Byte) : (s.portOut w v).inputs = s.inputs := rfl
@[simp] theorem State.portOut_trace (w : Word) (v : Byte) : (s.portOut w v).trace = s.trace ++ [.portWrite w v] := rfl
@[simp] theorem State.portOut_draws (w : Word) (v : Byte) : (s.portOut w v).draws = s.draws := rfl
@[simp] theorem State.portOut_reg8 (q : Reg8) (w : Word) (v : Byte) : (s.portOut w v).reg8 q = s.reg8 q := by cases q <;> rfl
@[simp] theorem State.portOut_flags (w : Word) (v : Byte) : (s.portOut w v).flags = s.flags := rfl
@[simp] theorem State.portOut_byteAt (a : Word) (w : Word) (v : Byte) : (s.portOut w v).byteAt a = s.byteAt a := rfl
@[simp] theorem State.portOut_kindAt (a : Word) (w : Word) (v : Byte) : (s.portOut w v).kindAt a = s.kindAt a := rfl
@[simp] theorem State.portOut_bc (w : Word) (v : Byte) : (s.portOut w v).bc = s.bc := rfl
@[simp] theorem State.portOut_de (w : Word) (v : Byte) : (s.portOut w v).de = s.de := rfl
@[simp] theorem State.portOut_hl (w : Word) (v : Byte) : (s.portOut w v).hl = s.hl := rfl

/-! ## setReg8 -/

@[simp] theorem State.setReg8_f (q : Reg8) (v : Byte) : (s.setReg8 q v).f = s.f := by cases q <;> rfl
@[simp] theorem State.setReg8_a' (q : Reg8) (v : Byte) : (s.setReg8 q v).a' = s.a' := by cases q <;> rfl
@[simp] theorem State.setReg8_f' (q : Reg8) (v : Byte) : (s.setReg8 q v).f' = s.f' := by cases q <;> rfl
@[simp] theorem State.setReg8_b' (q : Reg8) (v : Byte) : (s.setReg8 q v).b' = s.b' := by cases q <;> rfl
@[simp] theorem State.setReg8_c' (q : Reg8) (v : Byte) : (s.setReg8 q v).c' = s.c' := by cases q <;> rfl
@[simp] theorem State.setReg8_d' (q : Reg8) (v : Byte) : (s.setReg8 q v).d' = s.d' := by cases q <;> rfl
@[simp] theorem State.setReg8_e' (q : Reg8) (v : Byte) : (s.setReg8 q v).e' = s.e' := by cases q <;> rfl
@[simp] theorem State.setReg8_h' (q : Reg8) (v : Byte) : (s.setReg8 q v).h' = s.h' := by cases q <;> rfl
@[simp] theorem State.setReg8_l' (q : Reg8) (v : Byte) : (s.setReg8 q v).l' = s.l' := by cases q <;> rfl
@[simp] theorem State.setReg8_ix (q : Reg8) (v : Byte) : (s.setReg8 q v).ix = s.ix := by cases q <;> rfl
@[simp] theorem State.setReg8_iy (q : Reg8) (v : Byte) : (s.setReg8 q v).iy = s.iy := by cases q <;> rfl
@[simp] theorem State.setReg8_sp (q : Reg8) (v : Byte) : (s.setReg8 q v).sp = s.sp := by cases q <;> rfl
@[simp] theorem State.setReg8_pc (q : Reg8) (v : Byte) : (s.setReg8 q v).pc = s.pc := by cases q <;> rfl
@[simp] theorem State.setReg8_i (q : Reg8) (v : Byte) : (s.setReg8 q v).i = s.i := by cases q <;> rfl
@[simp] theorem State.setReg8_r (q : Reg8) (v : Byte) : (s.setReg8 q v).r = s.r := by cases q <;> rfl
@[simp] theorem State.setReg8_iff1 (q : Reg8) (v : Byte) : (s.setReg8 q v).iff1 = s.iff1 := by cases q <;> rfl
@[simp] theorem State.setReg8_iff2 (q : Reg8) (v : Byte) : (s.setReg8 q v).iff2 = s.iff2 := by cases q <;> rfl
@[simp] theorem State.setReg8_im (q : Reg8) (v : Byte) : (s.setReg8 q v).im = s.im := by cases q <;> rfl
@[simp] theorem State.setReg8_halted (q : Reg8) (v : Byte) : (s.setReg8 q v).halted = s.halted := by cases q <;> rfl
@[simp] theorem State.setReg8_eiShadow (q : Reg8) (v : Byte) : (s.setReg8 q v).eiShadow = s.eiShadow := by cases q <;> rfl
@[simp] theorem State.setReg8_nmiPending (q : Reg8) (v : Byte) : (s.setReg8 q v).nmiPending = s.nmiPending := by cases q <;> rfl
@[simp] theorem State.setReg8_mem (q : Reg8) (v : Byte) : (s.setReg8 q v).mem = s.mem := by cases q <;> rfl
@[simp] theorem State.setReg8_memMap (q : Reg8) (v : Byte) : (s.setReg8 q v).memMap = s.memMap := by cases q <;> rfl
@[simp] theorem State.setReg8_now (q : Reg8) (v : Byte) : (s.setReg8 q v).now = s.now := by cases q <;> rfl
@[simp] theorem State.setReg8_inputs (q : Reg8) (v : Byte) : (s.setReg8 q v).inputs = s.inputs := by cases q <;> rfl
@[simp] theorem State.setReg8_trace (q : Reg8) (v : Byte) : (s.setReg8 q v).trace = s.trace := by cases q <;> rfl
@[simp] theorem State.setReg8_draws (q : Reg8) (v : Byte) : (s.setReg8 q v).draws = s.draws := by cases q <;> rfl
@[simp] theorem State.setReg8_flags (q : Reg8) (v : Byte) : (s.setReg8 q v).flags = s.flags := by simp [State.flags]
@[simp] theorem State.setReg8_byteAt (a : Word) (q : Reg8) (v : Byte) : (s.setReg8 q v).byteAt a = s.byteAt a := by simp [State.byteAt]
@[simp] theorem State.setReg8_kindAt (a : Word) (q : Reg8) (v : Byte) : (s.setReg8 q v).kindAt a = s.kindAt a := by simp [State.kindAt]

/-! ## setPairDD -/

@[simp] theorem State.setPairDD_a (p : PairDD) (w : Word) : (s.setPairDD p w).a = s.a := by cases p <;> rfl
@[simp] theorem State.setPairDD_f (p : PairDD) (w : Word) : (s.setPairDD p w).f = s.f := by cases p <;> rfl
@[simp] theorem State.setPairDD_a' (p : PairDD) (w : Word) : (s.setPairDD p w).a' = s.a' := by cases p <;> rfl
@[simp] theorem State.setPairDD_f' (p : PairDD) (w : Word) : (s.setPairDD p w).f' = s.f' := by cases p <;> rfl
@[simp] theorem State.setPairDD_b' (p : PairDD) (w : Word) : (s.setPairDD p w).b' = s.b' := by cases p <;> rfl
@[simp] theorem State.setPairDD_c' (p : PairDD) (w : Word) : (s.setPairDD p w).c' = s.c' := by cases p <;> rfl
@[simp] theorem State.setPairDD_d' (p : PairDD) (w : Word) : (s.setPairDD p w).d' = s.d' := by cases p <;> rfl
@[simp] theorem State.setPairDD_e' (p : PairDD) (w : Word) : (s.setPairDD p w).e' = s.e' := by cases p <;> rfl
@[simp] theorem State.setPairDD_h' (p : PairDD) (w : Word) : (s.setPairDD p w).h' = s.h' := by cases p <;> rfl
@[simp] theorem State.setPairDD_l' (p : PairDD) (w : Word) : (s.setPairDD p w).l' = s.l' := by cases p <;> rfl
@[simp] theorem State.setPairDD_ix (p : PairDD) (w : Word) : (s.setPairDD p w).ix = s.ix := by cases p <;> rfl
@[simp] theorem State.setPairDD_iy (p : PairDD) (w : Word) : (s.setPairDD p w).iy = s.iy := by cases p <;> rfl
@[simp] theorem State.setPairDD_pc (p : PairDD) (w : Word) : (s.setPairDD p w).pc = s.pc := by cases p <;> rfl
@[simp] theorem State.setPairDD_i (p : PairDD) (w : Word) : (s.setPairDD p w).i = s.i := by cases p <;> rfl
@[simp] theorem State.setPairDD_r (p : PairDD) (w : Word) : (s.setPairDD p w).r = s.r := by cases p <;> rfl
@[simp] theorem State.setPairDD_iff1 (p : PairDD) (w : Word) : (s.setPairDD p w).iff1 = s.iff1 := by cases p <;> rfl
@[simp] theorem State.setPairDD_iff2 (p : PairDD) (w : Word) : (s.setPairDD p w).iff2 = s.iff2 := by cases p <;> rfl
@[simp] theorem State.setPairDD_im (p : PairDD) (w : Word) : (s.setPairDD p w).im = s.im := by cases p <;> rfl
@[simp] theorem State.setPairDD_halted (p : PairDD) (w : Word) : (s.setPairDD p w).halted = s.halted := by cases p <;> rfl
@[simp] theorem State.setPairDD_eiShadow (p : PairDD) (w : Word) : (s.setPairDD p w).eiShadow = s.eiShadow := by cases p <;> rfl
@[simp] theorem State.setPairDD_nmiPending (p : PairDD) (w : Word) : (s.setPairDD p w).nmiPending = s.nmiPending := by cases p <;> rfl
@[simp] theorem State.setPairDD_mem (p : PairDD) (w : Word) : (s.setPairDD p w).mem = s.mem := by cases p <;> rfl
@[simp] theorem State.setPairDD_memMap (p : PairDD) (w : Word) : (s.setPairDD p w).memMap = s.memMap := by cases p <;> rfl
@[simp] theorem State.setPairDD_now (p : PairDD) (w : Word) : (s.setPairDD p w).now = s.now := by cases p <;> rfl
@[simp] theorem State.setPairDD_inputs (p : PairDD) (w : Word) : (s.setPairDD p w).inputs = s.inputs := by cases p <;> rfl
@[simp] theorem State.setPairDD_trace (p : PairDD) (w : Word) : (s.setPairDD p w).trace = s.trace := by cases p <;> rfl
@[simp] theorem State.setPairDD_draws (p : PairDD) (w : Word) : (s.setPairDD p w).draws = s.draws := by cases p <;> rfl
@[simp] theorem State.setPairDD_flags (p : PairDD) (w : Word) : (s.setPairDD p w).flags = s.flags := by simp [State.flags]
@[simp] theorem State.setPairDD_byteAt (a : Word) (p : PairDD) (w : Word) : (s.setPairDD p w).byteAt a = s.byteAt a := by simp [State.byteAt]
@[simp] theorem State.setPairDD_kindAt (a : Word) (p : PairDD) (w : Word) : (s.setPairDD p w).kindAt a = s.kindAt a := by simp [State.kindAt]

/-! ## setPairQQ -/

@[simp] theorem State.setPairQQ_a' (p : PairQQ) (w : Word) : (s.setPairQQ p w).a' = s.a' := by cases p <;> rfl
@[simp] theorem State.setPairQQ_f' (p : PairQQ) (w : Word) : (s.setPairQQ p w).f' = s.f' := by cases p <;> rfl
@[simp] theorem State.setPairQQ_b' (p : PairQQ) (w : Word) : (s.setPairQQ p w).b' = s.b' := by cases p <;> rfl
@[simp] theorem State.setPairQQ_c' (p : PairQQ) (w : Word) : (s.setPairQQ p w).c' = s.c' := by cases p <;> rfl
@[simp] theorem State.setPairQQ_d' (p : PairQQ) (w : Word) : (s.setPairQQ p w).d' = s.d' := by cases p <;> rfl
@[simp] theorem State.setPairQQ_e' (p : PairQQ) (w : Word) : (s.setPairQQ p w).e' = s.e' := by cases p <;> rfl
@[simp] theorem State.setPairQQ_h' (p : PairQQ) (w : Word) : (s.setPairQQ p w).h' = s.h' := by cases p <;> rfl
@[simp] theorem State.setPairQQ_l' (p : PairQQ) (w : Word) : (s.setPairQQ p w).l' = s.l' := by cases p <;> rfl
@[simp] theorem State.setPairQQ_ix (p : PairQQ) (w : Word) : (s.setPairQQ p w).ix = s.ix := by cases p <;> rfl
@[simp] theorem State.setPairQQ_iy (p : PairQQ) (w : Word) : (s.setPairQQ p w).iy = s.iy := by cases p <;> rfl
@[simp] theorem State.setPairQQ_sp (p : PairQQ) (w : Word) : (s.setPairQQ p w).sp = s.sp := by cases p <;> rfl
@[simp] theorem State.setPairQQ_pc (p : PairQQ) (w : Word) : (s.setPairQQ p w).pc = s.pc := by cases p <;> rfl
@[simp] theorem State.setPairQQ_i (p : PairQQ) (w : Word) : (s.setPairQQ p w).i = s.i := by cases p <;> rfl
@[simp] theorem State.setPairQQ_r (p : PairQQ) (w : Word) : (s.setPairQQ p w).r = s.r := by cases p <;> rfl
@[simp] theorem State.setPairQQ_iff1 (p : PairQQ) (w : Word) : (s.setPairQQ p w).iff1 = s.iff1 := by cases p <;> rfl
@[simp] theorem State.setPairQQ_iff2 (p : PairQQ) (w : Word) : (s.setPairQQ p w).iff2 = s.iff2 := by cases p <;> rfl
@[simp] theorem State.setPairQQ_im (p : PairQQ) (w : Word) : (s.setPairQQ p w).im = s.im := by cases p <;> rfl
@[simp] theorem State.setPairQQ_halted (p : PairQQ) (w : Word) : (s.setPairQQ p w).halted = s.halted := by cases p <;> rfl
@[simp] theorem State.setPairQQ_eiShadow (p : PairQQ) (w : Word) : (s.setPairQQ p w).eiShadow = s.eiShadow := by cases p <;> rfl
@[simp] theorem State.setPairQQ_nmiPending (p : PairQQ) (w : Word) : (s.setPairQQ p w).nmiPending = s.nmiPending := by cases p <;> rfl
@[simp] theorem State.setPairQQ_mem (p : PairQQ) (w : Word) : (s.setPairQQ p w).mem = s.mem := by cases p <;> rfl
@[simp] theorem State.setPairQQ_memMap (p : PairQQ) (w : Word) : (s.setPairQQ p w).memMap = s.memMap := by cases p <;> rfl
@[simp] theorem State.setPairQQ_now (p : PairQQ) (w : Word) : (s.setPairQQ p w).now = s.now := by cases p <;> rfl
@[simp] theorem State.setPairQQ_inputs (p : PairQQ) (w : Word) : (s.setPairQQ p w).inputs = s.inputs := by cases p <;> rfl
@[simp] theorem State.setPairQQ_trace (p : PairQQ) (w : Word) : (s.setPairQQ p w).trace = s.trace := by cases p <;> rfl
@[simp] theorem State.setPairQQ_draws (p : PairQQ) (w : Word) : (s.setPairQQ p w).draws = s.draws := by cases p <;> rfl
@[simp] theorem State.setPairQQ_byteAt (a : Word) (p : PairQQ) (w : Word) : (s.setPairQQ p w).byteAt a = s.byteAt a := by simp [State.byteAt]
@[simp] theorem State.setPairQQ_kindAt (a : Word) (p : PairQQ) (w : Word) : (s.setPairQQ p w).kindAt a = s.kindAt a := by simp [State.kindAt]

/-! ## read8 -/

@[simp] theorem State.read8_a (w : Word) : (s.read8 w).2.a = s.a := by unfold State.read8; split <;> rfl
@[simp] theorem State.read8_f (w : Word) : (s.read8 w).2.f = s.f := by unfold State.read8; split <;> rfl
@[simp] theorem State.read8_b (w : Word) : (s.read8 w).2.b = s.b := by unfold State.read8; split <;> rfl
@[simp] theorem State.read8_c (w : Word) : (s.read8 w).2.c = s.c := by unfold State.read8; split <;> rfl
@[simp] theorem State.read8_d (w : Word) : (s.read8 w).2.d = s.d := by unfold State.read8; split <;> rfl
@[simp] theorem State.read8_e (w : Word) : (s.read8 w).2.e = s.e := by unfold State.read8; split <;> rfl
@[simp] theorem State.read8_h (w : Word) : (s.read8 w).2.h = s.h := by unfold State.read8; split <;> rfl
@[simp] theorem State.read8_l (w : Word) : (s.read8 w).2.l = s.l := by unfold State.read8; split <;> rfl
@[simp] theorem State.read8_a' (w : Word) : (s.read8 w).2.a' = s.a' := by unfold State.read8; split <;> rfl
@[simp] theorem State.read8_f' (w : Word) : (s.read8 w).2.f' = s.f' := by unfold State.read8; split <;> rfl
@[simp] theorem State.read8_b' (w : Word) : (s.read8 w).2.b' = s.b' := by unfold State.read8; split <;> rfl
@[simp] theorem State.read8_c' (w : Word) : (s.read8 w).2.c' = s.c' := by unfold State.read8; split <;> rfl
@[simp] theorem State.read8_d' (w : Word) : (s.read8 w).2.d' = s.d' := by unfold State.read8; split <;> rfl
@[simp] theorem State.read8_e' (w : Word) : (s.read8 w).2.e' = s.e' := by unfold State.read8; split <;> rfl
@[simp] theorem State.read8_h' (w : Word) : (s.read8 w).2.h' = s.h' := by unfold State.read8; split <;> rfl
@[simp] theorem State.read8_l' (w : Word) : (s.read8 w).2.l' = s.l' := by unfold State.read8; split <;> rfl
@[simp] theorem State.read8_ix (w : Word) : (s.read8 w).2.ix = s.ix := by unfold State.read8; split <;> rfl
@[simp] theorem State.read8_iy (w : Word) : (s.read8 w).2.iy = s.iy := by unfold State.read8; split <;> rfl
@[simp] theorem State.read8_sp (w : Word) : (s.read8 w).2.sp = s.sp := by unfold State.read8; split <;> rfl
@[simp] theorem State.read8_pc (w : Word) : (s.read8 w).2.pc = s.pc := by unfold State.read8; split <;> rfl
@[simp] theorem State.read8_i (w : Word) : (s.read8 w).2.i = s.i := by unfold State.read8; split <;> rfl
@[simp] theorem State.read8_r (w : Word) : (s.read8 w).2.r = s.r := by unfold State.read8; split <;> rfl
@[simp] theorem State.read8_iff1 (w : Word) : (s.read8 w).2.iff1 = s.iff1 := by unfold State.read8; split <;> rfl
@[simp] theorem State.read8_iff2 (w : Word) : (s.read8 w).2.iff2 = s.iff2 := by unfold State.read8; split <;> rfl
@[simp] theorem State.read8_im (w : Word) : (s.read8 w).2.im = s.im := by unfold State.read8; split <;> rfl
@[simp] theorem State.read8_halted (w : Word) : (s.read8 w).2.halted = s.halted := by unfold State.read8; split <;> rfl
@[simp] theorem State.read8_eiShadow (w : Word) : (s.read8 w).2.eiShadow = s.eiShadow := by unfold State.read8; split <;> rfl
@[simp] theorem State.read8_nmiPending (w : Word) : (s.read8 w).2.nmiPending = s.nmiPending := by unfold State.read8; split <;> rfl
@[simp] theorem State.read8_mem (w : Word) : (s.read8 w).2.mem = s.mem := by unfold State.read8; split <;> rfl
@[simp] theorem State.read8_memMap (w : Word) : (s.read8 w).2.memMap = s.memMap := by unfold State.read8; split <;> rfl
@[simp] theorem State.read8_now (w : Word) : (s.read8 w).2.now = s.now := by unfold State.read8; split <;> rfl
@[simp] theorem State.read8_inputs (w : Word) : (s.read8 w).2.inputs = s.inputs := by unfold State.read8; split <;> rfl
@[simp] theorem State.read8_reg8 (q : Reg8) (w : Word) : (s.read8 w).2.reg8 q = s.reg8 q := by cases q <;> simp [State.reg8]
@[simp] theorem State.read8_flags (w : Word) : (s.read8 w).2.flags = s.flags := by simp [State.flags]
@[simp] theorem State.read8_byteAt (a : Word) (w : Word) : (s.read8 w).2.byteAt a = s.byteAt a := by simp [State.byteAt]
@[simp] theorem State.read8_kindAt (a : Word) (w : Word) : (s.read8 w).2.kindAt a = s.kindAt a := by simp [State.kindAt]
@[simp] theorem State.read8_bc (w : Word) : (s.read8 w).2.bc = s.bc := by simp [State.bc]
@[simp] theorem State.read8_de (w : Word) : (s.read8 w).2.de = s.de := by simp [State.de]
@[simp] theorem State.read8_hl (w : Word) : (s.read8 w).2.hl = s.hl := by simp [State.hl]

/-! ## write8 -/

@[simp] theorem State.write8_a (w : Word) (v : Byte) : (s.write8 w v).a = s.a := by unfold State.write8; split <;> rfl
@[simp] theorem State.write8_f (w : Word) (v : Byte) : (s.write8 w v).f = s.f := by unfold State.write8; split <;> rfl
@[simp] theorem State.write8_b (w : Word) (v : Byte) : (s.write8 w v).b = s.b := by unfold State.write8; split <;> rfl
@[simp] theorem State.write8_c (w : Word) (v : Byte) : (s.write8 w v).c = s.c := by unfold State.write8; split <;> rfl
@[simp] theorem State.write8_d (w : Word) (v : Byte) : (s.write8 w v).d = s.d := by unfold State.write8; split <;> rfl
@[simp] theorem State.write8_e (w : Word) (v : Byte) : (s.write8 w v).e = s.e := by unfold State.write8; split <;> rfl
@[simp] theorem State.write8_h (w : Word) (v : Byte) : (s.write8 w v).h = s.h := by unfold State.write8; split <;> rfl
@[simp] theorem State.write8_l (w : Word) (v : Byte) : (s.write8 w v).l = s.l := by unfold State.write8; split <;> rfl
@[simp] theorem State.write8_a' (w : Word) (v : Byte) : (s.write8 w v).a' = s.a' := by unfold State.write8; split <;> rfl
@[simp] theorem State.write8_f' (w : Word) (v : Byte) : (s.write8 w v).f' = s.f' := by unfold State.write8; split <;> rfl
@[simp] theorem State.write8_b' (w : Word) (v : Byte) : (s.write8 w v).b' = s.b' := by unfold State.write8; split <;> rfl
@[simp] theorem State.write8_c' (w : Word) (v : Byte) : (s.write8 w v).c' = s.c' := by unfold State.write8; split <;> rfl
@[simp] theorem State.write8_d' (w : Word) (v : Byte) : (s.write8 w v).d' = s.d' := by unfold State.write8; split <;> rfl
@[simp] theorem State.write8_e' (w : Word) (v : Byte) : (s.write8 w v).e' = s.e' := by unfold State.write8; split <;> rfl
@[simp] theorem State.write8_h' (w : Word) (v : Byte) : (s.write8 w v).h' = s.h' := by unfold State.write8; split <;> rfl
@[simp] theorem State.write8_l' (w : Word) (v : Byte) : (s.write8 w v).l' = s.l' := by unfold State.write8; split <;> rfl
@[simp] theorem State.write8_ix (w : Word) (v : Byte) : (s.write8 w v).ix = s.ix := by unfold State.write8; split <;> rfl
@[simp] theorem State.write8_iy (w : Word) (v : Byte) : (s.write8 w v).iy = s.iy := by unfold State.write8; split <;> rfl
@[simp] theorem State.write8_sp (w : Word) (v : Byte) : (s.write8 w v).sp = s.sp := by unfold State.write8; split <;> rfl
@[simp] theorem State.write8_pc (w : Word) (v : Byte) : (s.write8 w v).pc = s.pc := by unfold State.write8; split <;> rfl
@[simp] theorem State.write8_i (w : Word) (v : Byte) : (s.write8 w v).i = s.i := by unfold State.write8; split <;> rfl
@[simp] theorem State.write8_r (w : Word) (v : Byte) : (s.write8 w v).r = s.r := by unfold State.write8; split <;> rfl
@[simp] theorem State.write8_iff1 (w : Word) (v : Byte) : (s.write8 w v).iff1 = s.iff1 := by unfold State.write8; split <;> rfl
@[simp] theorem State.write8_iff2 (w : Word) (v : Byte) : (s.write8 w v).iff2 = s.iff2 := by unfold State.write8; split <;> rfl
@[simp] theorem State.write8_im (w : Word) (v : Byte) : (s.write8 w v).im = s.im := by unfold State.write8; split <;> rfl
@[simp] theorem State.write8_halted (w : Word) (v : Byte) : (s.write8 w v).halted = s.halted := by unfold State.write8; split <;> rfl
@[simp] theorem State.write8_eiShadow (w : Word) (v : Byte) : (s.write8 w v).eiShadow = s.eiShadow := by unfold State.write8; split <;> rfl
@[simp] theorem State.write8_nmiPending (w : Word) (v : Byte) : (s.write8 w v).nmiPending = s.nmiPending := by unfold State.write8; split <;> rfl
@[simp] theorem State.write8_memMap (w : Word) (v : Byte) : (s.write8 w v).memMap = s.memMap := by unfold State.write8; split <;> rfl
@[simp] theorem State.write8_now (w : Word) (v : Byte) : (s.write8 w v).now = s.now := by unfold State.write8; split <;> rfl
@[simp] theorem State.write8_inputs (w : Word) (v : Byte) : (s.write8 w v).inputs = s.inputs := by unfold State.write8; split <;> rfl
@[simp] theorem State.write8_draws (w : Word) (v : Byte) : (s.write8 w v).draws = s.draws := by unfold State.write8; split <;> rfl
@[simp] theorem State.write8_reg8 (q : Reg8) (w : Word) (v : Byte) : (s.write8 w v).reg8 q = s.reg8 q := by cases q <;> simp [State.reg8]
@[simp] theorem State.write8_flags (w : Word) (v : Byte) : (s.write8 w v).flags = s.flags := by simp [State.flags]
@[simp] theorem State.write8_kindAt (a : Word) (w : Word) (v : Byte) : (s.write8 w v).kindAt a = s.kindAt a := by simp [State.kindAt]
@[simp] theorem State.write8_bc (w : Word) (v : Byte) : (s.write8 w v).bc = s.bc := by simp [State.bc]
@[simp] theorem State.write8_de (w : Word) (v : Byte) : (s.write8 w v).de = s.de := by simp [State.de]
@[simp] theorem State.write8_hl (w : Word) (v : Byte) : (s.write8 w v).hl = s.hl := by simp [State.hl]

/-! ## read16 -/

@[simp] theorem State.read16_a (w : Word) : (s.read16 w).2.a = s.a := by simp [State.read16]
@[simp] theorem State.read16_f (w : Word) : (s.read16 w).2.f = s.f := by simp [State.read16]
@[simp] theorem State.read16_b (w : Word) : (s.read16 w).2.b = s.b := by simp [State.read16]
@[simp] theorem State.read16_c (w : Word) : (s.read16 w).2.c = s.c := by simp [State.read16]
@[simp] theorem State.read16_d (w : Word) : (s.read16 w).2.d = s.d := by simp [State.read16]
@[simp] theorem State.read16_e (w : Word) : (s.read16 w).2.e = s.e := by simp [State.read16]
@[simp] theorem State.read16_h (w : Word) : (s.read16 w).2.h = s.h := by simp [State.read16]
@[simp] theorem State.read16_l (w : Word) : (s.read16 w).2.l = s.l := by simp [State.read16]
@[simp] theorem State.read16_a' (w : Word) : (s.read16 w).2.a' = s.a' := by simp [State.read16]
@[simp] theorem State.read16_f' (w : Word) : (s.read16 w).2.f' = s.f' := by simp [State.read16]
@[simp] theorem State.read16_b' (w : Word) : (s.read16 w).2.b' = s.b' := by simp [State.read16]
@[simp] theorem State.read16_c' (w : Word) : (s.read16 w).2.c' = s.c' := by simp [State.read16]
@[simp] theorem State.read16_d' (w : Word) : (s.read16 w).2.d' = s.d' := by simp [State.read16]
@[simp] theorem State.read16_e' (w : Word) : (s.read16 w).2.e' = s.e' := by simp [State.read16]
@[simp] theorem State.read16_h' (w : Word) : (s.read16 w).2.h' = s.h' := by simp [State.read16]
@[simp] theorem State.read16_l' (w : Word) : (s.read16 w).2.l' = s.l' := by simp [State.read16]
@[simp] theorem State.read16_ix (w : Word) : (s.read16 w).2.ix = s.ix := by simp [State.read16]
@[simp] theorem State.read16_iy (w : Word) : (s.read16 w).2.iy = s.iy := by simp [State.read16]
@[simp] theorem State.read16_sp (w : Word) : (s.read16 w).2.sp = s.sp := by simp [State.read16]
@[simp] theorem State.read16_pc (w : Word) : (s.read16 w).2.pc = s.pc := by simp [State.read16]
@[simp] theorem State.read16_i (w : Word) : (s.read16 w).2.i = s.i := by simp [State.read16]
@[simp] theorem State.read16_r (w : Word) : (s.read16 w).2.r = s.r := by simp [State.read16]
@[simp] theorem State.read16_iff1 (w : Word) : (s.read16 w).2.iff1 = s.iff1 := by simp [State.read16]
@[simp] theorem State.read16_iff2 (w : Word) : (s.read16 w).2.iff2 = s.iff2 := by simp [State.read16]
@[simp] theorem State.read16_im (w : Word) : (s.read16 w).2.im = s.im := by simp [State.read16]
@[simp] theorem State.read16_halted (w : Word) : (s.read16 w).2.halted = s.halted := by simp [State.read16]
@[simp] theorem State.read16_eiShadow (w : Word) : (s.read16 w).2.eiShadow = s.eiShadow := by simp [State.read16]
@[simp] theorem State.read16_nmiPending (w : Word) : (s.read16 w).2.nmiPending = s.nmiPending := by simp [State.read16]
@[simp] theorem State.read16_mem (w : Word) : (s.read16 w).2.mem = s.mem := by simp [State.read16]
@[simp] theorem State.read16_memMap (w : Word) : (s.read16 w).2.memMap = s.memMap := by simp [State.read16]
@[simp] theorem State.read16_now (w : Word) : (s.read16 w).2.now = s.now := by simp [State.read16]
@[simp] theorem State.read16_inputs (w : Word) : (s.read16 w).2.inputs = s.inputs := by simp [State.read16]
@[simp] theorem State.read16_reg8 (q : Reg8) (w : Word) : (s.read16 w).2.reg8 q = s.reg8 q := by cases q <;> simp [State.reg8]
@[simp] theorem State.read16_flags (w : Word) : (s.read16 w).2.flags = s.flags := by simp [State.flags]
@[simp] theorem State.read16_byteAt (a : Word) (w : Word) : (s.read16 w).2.byteAt a = s.byteAt a := by simp [State.byteAt]
@[simp] theorem State.read16_kindAt (a : Word) (w : Word) : (s.read16 w).2.kindAt a = s.kindAt a := by simp [State.kindAt]
@[simp] theorem State.read16_bc (w : Word) : (s.read16 w).2.bc = s.bc := by simp [State.bc]
@[simp] theorem State.read16_de (w : Word) : (s.read16 w).2.de = s.de := by simp [State.de]
@[simp] theorem State.read16_hl (w : Word) : (s.read16 w).2.hl = s.hl := by simp [State.hl]

/-! ## write16 -/

@[simp] theorem State.write16_a (w x : Word) : (s.write16 w x).a = s.a := by simp [State.write16]
@[simp] theorem State.write16_f (w x : Word) : (s.write16 w x).f = s.f := by simp [State.write16]
@[simp] theorem State.write16_b (w x : Word) : (s.write16 w x).b = s.b := by simp [State.write16]
@[simp] theorem State.write16_c (w x : Word) : (s.write16 w x).c = s.c := by simp [State.write16]
@[simp] theorem State.write16_d (w x : Word) : (s.write16 w x).d = s.d := by simp [State.write16]
@[simp] theorem State.write16_e (w x : Word) : (s.write16 w x).e = s.e := by simp [State.write16]
@[simp] theorem State.write16_h (w x : Word) : (s.write16 w x).h = s.h := by simp [State.write16]
@[simp] theorem State.write16_l (w x : Word) : (s.write16 w x).l = s.l := by simp [State.write16]
@[simp] theorem State.write16_a' (w x : Word) : (s.write16 w x).a' = s.a' := by simp [State.write16]
@[simp] theorem State.write16_f' (w x : Word) : (s.write16 w x).f' = s.f' := by simp [State.write16]
@[simp] theorem State.write16_b' (w x : Word) : (s.write16 w x).b' = s.b' := by simp [State.write16]
@[simp] theorem State.write16_c' (w x : Word) : (s.write16 w x).c' = s.c' := by simp [State.write16]
@[simp] theorem State.write16_d' (w x : Word) : (s.write16 w x).d' = s.d' := by simp [State.write16]
@[simp] theorem State.write16_e' (w x : Word) : (s.write16 w x).e' = s.e' := by simp [State.write16]
@[simp] theorem State.write16_h' (w x : Word) : (s.write16 w x).h' = s.h' := by simp [State.write16]
@[simp] theorem State.write16_l' (w x : Word) : (s.write16 w x).l' = s.l' := by simp [State.write16]
@[simp] theorem State.write16_ix (w x : Word) : (s.write16 w x).ix = s.ix := by simp [State.write16]
@[simp] theorem State.write16_iy (w x : Word) : (s.write16 w x).iy = s.iy := by simp [State.write16]
@[simp] theorem State.write16_sp (w x : Word) : (s.write16 w x).sp = s.sp := by simp [State.write16]
@[simp] theorem State.write16_pc (w x : Word) : (s.write16 w x).pc = s.pc := by simp [State.write16]
@[simp] theorem State.write16_i (w x : Word) : (s.write16 w x).i = s.i := by simp [State.write16]
@[simp] theorem State.write16_r (w x : Word) : (s.write16 w x).r = s.r := by simp [State.write16]
@[simp] theorem State.write16_iff1 (w x : Word) : (s.write16 w x).iff1 = s.iff1 := by simp [State.write16]
@[simp] theorem State.write16_iff2 (w x : Word) : (s.write16 w x).iff2 = s.iff2 := by simp [State.write16]
@[simp] theorem State.write16_im (w x : Word) : (s.write16 w x).im = s.im := by simp [State.write16]
@[simp] theorem State.write16_halted (w x : Word) : (s.write16 w x).halted = s.halted := by simp [State.write16]
@[simp] theorem State.write16_eiShadow (w x : Word) : (s.write16 w x).eiShadow = s.eiShadow := by simp [State.write16]
@[simp] theorem State.write16_nmiPending (w x : Word) : (s.write16 w x).nmiPending = s.nmiPending := by simp [State.write16]
@[simp] theorem State.write16_memMap (w x : Word) : (s.write16 w x).memMap = s.memMap := by simp [State.write16]
@[simp] theorem State.write16_now (w x : Word) : (s.write16 w x).now = s.now := by simp [State.write16]
@[simp] theorem State.write16_inputs (w x : Word) : (s.write16 w x).inputs = s.inputs := by simp [State.write16]
@[simp] theorem State.write16_draws (w x : Word) : (s.write16 w x).draws = s.draws := by simp [State.write16]
@[simp] theorem State.write16_reg8 (q : Reg8) (w x : Word) : (s.write16 w x).reg8 q = s.reg8 q := by cases q <;> simp [State.reg8]
@[simp] theorem State.write16_flags (w x : Word) : (s.write16 w x).flags = s.flags := by simp [State.flags]
@[simp] theorem State.write16_kindAt (a : Word) (w x : Word) : (s.write16 w x).kindAt a = s.kindAt a := by simp [State.kindAt]
@[simp] theorem State.write16_bc (w x : Word) : (s.write16 w x).bc = s.bc := by simp [State.bc]
@[simp] theorem State.write16_de (w x : Word) : (s.write16 w x).de = s.de := by simp [State.de]
@[simp] theorem State.write16_hl (w x : Word) : (s.write16 w x).hl = s.hl := by simp [State.hl]

/-! ## push16 -/

@[simp] theorem State.push16_a (w : Word) : (s.push16 w).a = s.a := by simp [State.push16]
@[simp] theorem State.push16_f (w : Word) : (s.push16 w).f = s.f := by simp [State.push16]
@[simp] theorem State.push16_b (w : Word) : (s.push16 w).b = s.b := by simp [State.push16]
@[simp] theorem State.push16_c (w : Word) : (s.push16 w).c = s.c := by simp [State.push16]
@[simp] theorem State.push16_d (w : Word) : (s.push16 w).d = s.d := by simp [State.push16]
@[simp] theorem State.push16_e (w : Word) : (s.push16 w).e = s.e := by simp [State.push16]
@[simp] theorem State.push16_h (w : Word) : (s.push16 w).h = s.h := by simp [State.push16]
@[simp] theorem State.push16_l (w : Word) : (s.push16 w).l = s.l := by simp [State.push16]
@[simp] theorem State.push16_a' (w : Word) : (s.push16 w).a' = s.a' := by simp [State.push16]
@[simp] theorem State.push16_f' (w : Word) : (s.push16 w).f' = s.f' := by simp [State.push16]
@[simp] theorem State.push16_b' (w : Word) : (s.push16 w).b' = s.b' := by simp [State.push16]
@[simp] theorem State.push16_c' (w : Word) : (s.push16 w).c' = s.c' := by simp [State.push16]
@[simp] theorem State.push16_d' (w : Word) : (s.push16 w).d' = s.d' := by simp [State.push16]
@[simp] theorem State.push16_e' (w : Word) : (s.push16 w).e' = s.e' := by simp [State.push16]
@[simp] theorem State.push16_h' (w : Word) : (s.push16 w).h' = s.h' := by simp [State.push16]
@[simp] theorem State.push16_l' (w : Word) : (s.push16 w).l' = s.l' := by simp [State.push16]
@[simp] theorem State.push16_ix (w : Word) : (s.push16 w).ix = s.ix := by simp [State.push16]
@[simp] theorem State.push16_iy (w : Word) : (s.push16 w).iy = s.iy := by simp [State.push16]
@[simp] theorem State.push16_sp (w : Word) : (s.push16 w).sp = s.sp - 2 := by simp [State.push16]
@[simp] theorem State.push16_pc (w : Word) : (s.push16 w).pc = s.pc := by simp [State.push16]
@[simp] theorem State.push16_i (w : Word) : (s.push16 w).i = s.i := by simp [State.push16]
@[simp] theorem State.push16_r (w : Word) : (s.push16 w).r = s.r := by simp [State.push16]
@[simp] theorem State.push16_iff1 (w : Word) : (s.push16 w).iff1 = s.iff1 := by simp [State.push16]
@[simp] theorem State.push16_iff2 (w : Word) : (s.push16 w).iff2 = s.iff2 := by simp [State.push16]
@[simp] theorem State.push16_im (w : Word) : (s.push16 w).im = s.im := by simp [State.push16]
@[simp] theorem State.push16_halted (w : Word) : (s.push16 w).halted = s.halted := by simp [State.push16]
@[simp] theorem State.push16_eiShadow (w : Word) : (s.push16 w).eiShadow = s.eiShadow := by simp [State.push16]
@[simp] theorem State.push16_nmiPending (w : Word) : (s.push16 w).nmiPending = s.nmiPending := by simp [State.push16]
@[simp] theorem State.push16_memMap (w : Word) : (s.push16 w).memMap = s.memMap := by simp [State.push16]
@[simp] theorem State.push16_now (w : Word) : (s.push16 w).now = s.now := by simp [State.push16]
@[simp] theorem State.push16_inputs (w : Word) : (s.push16 w).inputs = s.inputs := by simp [State.push16]
@[simp] theorem State.push16_draws (w : Word) : (s.push16 w).draws = s.draws := by simp [State.push16]
@[simp] theorem State.push16_reg8 (q : Reg8) (w : Word) : (s.push16 w).reg8 q = s.reg8 q := by cases q <;> simp [State.reg8]
@[simp] theorem State.push16_flags (w : Word) : (s.push16 w).flags = s.flags := by simp [State.flags]
@[simp] theorem State.push16_kindAt (a : Word) (w : Word) : (s.push16 w).kindAt a = s.kindAt a := by simp [State.kindAt]
@[simp] theorem State.push16_bc (w : Word) : (s.push16 w).bc = s.bc := by simp [State.bc]
@[simp] theorem State.push16_de (w : Word) : (s.push16 w).de = s.de := by simp [State.de]
@[simp] theorem State.push16_hl (w : Word) : (s.push16 w).hl = s.hl := by simp [State.hl]

/-! ## pop16 -/

@[simp] theorem State.pop16_a : s.pop16.2.a = s.a := by simp [State.pop16]
@[simp] theorem State.pop16_f : s.pop16.2.f = s.f := by simp [State.pop16]
@[simp] theorem State.pop16_b : s.pop16.2.b = s.b := by simp [State.pop16]
@[simp] theorem State.pop16_c : s.pop16.2.c = s.c := by simp [State.pop16]
@[simp] theorem State.pop16_d : s.pop16.2.d = s.d := by simp [State.pop16]
@[simp] theorem State.pop16_e : s.pop16.2.e = s.e := by simp [State.pop16]
@[simp] theorem State.pop16_h : s.pop16.2.h = s.h := by simp [State.pop16]
@[simp] theorem State.pop16_l : s.pop16.2.l = s.l := by simp [State.pop16]
@[simp] theorem State.pop16_a' : s.pop16.2.a' = s.a' := by simp [State.pop16]
@[simp] theorem State.pop16_f' : s.pop16.2.f' = s.f' := by simp [State.pop16]
@[simp] theorem State.pop16_b' : s.pop16.2.b' = s.b' := by simp [State.pop16]
@[simp] theorem State.pop16_c' : s.pop16.2.c' = s.c' := by simp [State.pop16]
@[simp] theorem State.pop16_d' : s.pop16.2.d' = s.d' := by simp [State.pop16]
@[simp] theorem State.pop16_e' : s.pop16.2.e' = s.e' := by simp [State.pop16]
@[simp] theorem State.pop16_h' : s.pop16.2.h' = s.h' := by simp [State.pop16]
@[simp] theorem State.pop16_l' : s.pop16.2.l' = s.l' := by simp [State.pop16]
@[simp] theorem State.pop16_ix : s.pop16.2.ix = s.ix := by simp [State.pop16]
@[simp] theorem State.pop16_iy : s.pop16.2.iy = s.iy := by simp [State.pop16]
@[simp] theorem State.pop16_sp : s.pop16.2.sp = s.sp + 2 := by simp [State.pop16]
@[simp] theorem State.pop16_pc : s.pop16.2.pc = s.pc := by simp [State.pop16]
@[simp] theorem State.pop16_i : s.pop16.2.i = s.i := by simp [State.pop16]
@[simp] theorem State.pop16_r : s.pop16.2.r = s.r := by simp [State.pop16]
@[simp] theorem State.pop16_iff1 : s.pop16.2.iff1 = s.iff1 := by simp [State.pop16]
@[simp] theorem State.pop16_iff2 : s.pop16.2.iff2 = s.iff2 := by simp [State.pop16]
@[simp] theorem State.pop16_im : s.pop16.2.im = s.im := by simp [State.pop16]
@[simp] theorem State.pop16_halted : s.pop16.2.halted = s.halted := by simp [State.pop16]
@[simp] theorem State.pop16_eiShadow : s.pop16.2.eiShadow = s.eiShadow := by simp [State.pop16]
@[simp] theorem State.pop16_nmiPending : s.pop16.2.nmiPending = s.nmiPending := by simp [State.pop16]
@[simp] theorem State.pop16_mem : s.pop16.2.mem = s.mem := by simp [State.pop16]
@[simp] theorem State.pop16_memMap : s.pop16.2.memMap = s.memMap := by simp [State.pop16]
@[simp] theorem State.pop16_now : s.pop16.2.now = s.now := by simp [State.pop16]
@[simp] theorem State.pop16_inputs : s.pop16.2.inputs = s.inputs := by simp [State.pop16]
@[simp] theorem State.pop16_reg8 (q : Reg8)  : s.pop16.2.reg8 q = s.reg8 q := by cases q <;> simp [State.reg8]
@[simp] theorem State.pop16_flags : s.pop16.2.flags = s.flags := by simp [State.flags]
@[simp] theorem State.pop16_byteAt (a : Word)  : s.pop16.2.byteAt a = s.byteAt a := by simp [State.byteAt]
@[simp] theorem State.pop16_kindAt (a : Word)  : s.pop16.2.kindAt a = s.kindAt a := by simp [State.kindAt]
@[simp] theorem State.pop16_bc : s.pop16.2.bc = s.bc := by simp [State.bc]
@[simp] theorem State.pop16_de : s.pop16.2.de = s.de := by simp [State.de]
@[simp] theorem State.pop16_hl : s.pop16.2.hl = s.hl := by simp [State.hl]

/-! ## repeatWhile -/

@[simp] theorem State.repeatWhile_a (k : Bool) : (s.repeatWhile k).a = s.a := by unfold State.repeatWhile; split <;> rfl
@[simp] theorem State.repeatWhile_f (k : Bool) : (s.repeatWhile k).f = s.f := by unfold State.repeatWhile; split <;> rfl
@[simp] theorem State.repeatWhile_b (k : Bool) : (s.repeatWhile k).b = s.b := by unfold State.repeatWhile; split <;> rfl
@[simp] theorem State.repeatWhile_c (k : Bool) : (s.repeatWhile k).c = s.c := by unfold State.repeatWhile; split <;> rfl
@[simp] theorem State.repeatWhile_d (k : Bool) : (s.repeatWhile k).d = s.d := by unfold State.repeatWhile; split <;> rfl
@[simp] theorem State.repeatWhile_e (k : Bool) : (s.repeatWhile k).e = s.e := by unfold State.repeatWhile; split <;> rfl
@[simp] theorem State.repeatWhile_h (k : Bool) : (s.repeatWhile k).h = s.h := by unfold State.repeatWhile; split <;> rfl
@[simp] theorem State.repeatWhile_l (k : Bool) : (s.repeatWhile k).l = s.l := by unfold State.repeatWhile; split <;> rfl
@[simp] theorem State.repeatWhile_a' (k : Bool) : (s.repeatWhile k).a' = s.a' := by unfold State.repeatWhile; split <;> rfl
@[simp] theorem State.repeatWhile_f' (k : Bool) : (s.repeatWhile k).f' = s.f' := by unfold State.repeatWhile; split <;> rfl
@[simp] theorem State.repeatWhile_b' (k : Bool) : (s.repeatWhile k).b' = s.b' := by unfold State.repeatWhile; split <;> rfl
@[simp] theorem State.repeatWhile_c' (k : Bool) : (s.repeatWhile k).c' = s.c' := by unfold State.repeatWhile; split <;> rfl
@[simp] theorem State.repeatWhile_d' (k : Bool) : (s.repeatWhile k).d' = s.d' := by unfold State.repeatWhile; split <;> rfl
@[simp] theorem State.repeatWhile_e' (k : Bool) : (s.repeatWhile k).e' = s.e' := by unfold State.repeatWhile; split <;> rfl
@[simp] theorem State.repeatWhile_h' (k : Bool) : (s.repeatWhile k).h' = s.h' := by unfold State.repeatWhile; split <;> rfl
@[simp] theorem State.repeatWhile_l' (k : Bool) : (s.repeatWhile k).l' = s.l' := by unfold State.repeatWhile; split <;> rfl
@[simp] theorem State.repeatWhile_ix (k : Bool) : (s.repeatWhile k).ix = s.ix := by unfold State.repeatWhile; split <;> rfl
@[simp] theorem State.repeatWhile_iy (k : Bool) : (s.repeatWhile k).iy = s.iy := by unfold State.repeatWhile; split <;> rfl
@[simp] theorem State.repeatWhile_sp (k : Bool) : (s.repeatWhile k).sp = s.sp := by unfold State.repeatWhile; split <;> rfl
@[simp] theorem State.repeatWhile_pc (k : Bool) : (s.repeatWhile k).pc = if k = true then s.pc else s.pc + 2 := by unfold State.repeatWhile; split <;> rfl
@[simp] theorem State.repeatWhile_i (k : Bool) : (s.repeatWhile k).i = s.i := by unfold State.repeatWhile; split <;> rfl
@[simp] theorem State.repeatWhile_r (k : Bool) : (s.repeatWhile k).r = s.r := by unfold State.repeatWhile; split <;> rfl
@[simp] theorem State.repeatWhile_iff1 (k : Bool) : (s.repeatWhile k).iff1 = s.iff1 := by unfold State.repeatWhile; split <;> rfl
@[simp] theorem State.repeatWhile_iff2 (k : Bool) : (s.repeatWhile k).iff2 = s.iff2 := by unfold State.repeatWhile; split <;> rfl
@[simp] theorem State.repeatWhile_im (k : Bool) : (s.repeatWhile k).im = s.im := by unfold State.repeatWhile; split <;> rfl
@[simp] theorem State.repeatWhile_halted (k : Bool) : (s.repeatWhile k).halted = s.halted := by unfold State.repeatWhile; split <;> rfl
@[simp] theorem State.repeatWhile_eiShadow (k : Bool) : (s.repeatWhile k).eiShadow = s.eiShadow := by unfold State.repeatWhile; split <;> rfl
@[simp] theorem State.repeatWhile_nmiPending (k : Bool) : (s.repeatWhile k).nmiPending = s.nmiPending := by unfold State.repeatWhile; split <;> rfl
@[simp] theorem State.repeatWhile_mem (k : Bool) : (s.repeatWhile k).mem = s.mem := by unfold State.repeatWhile; split <;> rfl
@[simp] theorem State.repeatWhile_memMap (k : Bool) : (s.repeatWhile k).memMap = s.memMap := by unfold State.repeatWhile; split <;> rfl
@[simp] theorem State.repeatWhile_now (k : Bool) : (s.repeatWhile k).now = s.now := by unfold State.repeatWhile; split <;> rfl
@[simp] theorem State.repeatWhile_inputs (k : Bool) : (s.repeatWhile k).inputs = s.inputs := by unfold State.repeatWhile; split <;> rfl
@[simp] theorem State.repeatWhile_trace (k : Bool) : (s.repeatWhile k).trace = s.trace := by unfold State.repeatWhile; split <;> rfl
@[simp] theorem State.repeatWhile_draws (k : Bool) : (s.repeatWhile k).draws = s.draws := by unfold State.repeatWhile; split <;> rfl
@[simp] theorem State.repeatWhile_reg8 (q : Reg8) (k : Bool) : (s.repeatWhile k).reg8 q = s.reg8 q := by cases q <;> simp [State.reg8]
@[simp] theorem State.repeatWhile_flags (k : Bool) : (s.repeatWhile k).flags = s.flags := by simp [State.flags]
@[simp] theorem State.repeatWhile_byteAt (a : Word) (k : Bool) : (s.repeatWhile k).byteAt a = s.byteAt a := by simp [State.byteAt]
@[simp] theorem State.repeatWhile_kindAt (a : Word) (k : Bool) : (s.repeatWhile k).kindAt a = s.kindAt a := by simp [State.kindAt]
@[simp] theorem State.repeatWhile_bc (k : Bool) : (s.repeatWhile k).bc = s.bc := by simp [State.bc]
@[simp] theorem State.repeatWhile_de (k : Bool) : (s.repeatWhile k).de = s.de := by simp [State.de]
@[simp] theorem State.repeatWhile_hl (k : Bool) : (s.repeatWhile k).hl = s.hl := by simp [State.hl]

/-! ## repeatWhileB -/

@[simp] theorem State.repeatWhileB_a : s.repeatWhileB.a = s.a := by unfold State.repeatWhileB; split <;> simp_all
@[simp] theorem State.repeatWhileB_f : s.repeatWhileB.f = s.f := by unfold State.repeatWhileB; split <;> simp_all
@[simp] theorem State.repeatWhileB_b : s.repeatWhileB.b = s.b := by unfold State.repeatWhileB; split <;> simp_all
@[simp] theorem State.repeatWhileB_c : s.repeatWhileB.c = s.c := by unfold State.repeatWhileB; split <;> simp_all
@[simp] theorem State.repeatWhileB_d : s.repeatWhileB.d = s.d := by unfold State.repeatWhileB; split <;> simp_all
@[simp] theorem State.repeatWhileB_e : s.repeatWhileB.e = s.e := by unfold State.repeatWhileB; split <;> simp_all
@[simp] theorem State.repeatWhileB_h : s.repeatWhileB.h = s.h := by unfold State.repeatWhileB; split <;> simp_all
@[simp] theorem State.repeatWhileB_l : s.repeatWhileB.l = s.l := by unfold State.repeatWhileB; split <;> simp_all
@[simp] theorem State.repeatWhileB_a' : s.repeatWhileB.a' = s.a' := by unfold State.repeatWhileB; split <;> simp_all
@[simp] theorem State.repeatWhileB_f' : s.repeatWhileB.f' = s.f' := by unfold State.repeatWhileB; split <;> simp_all
@[simp] theorem State.repeatWhileB_b' : s.repeatWhileB.b' = s.b' := by unfold State.repeatWhileB; split <;> simp_all
@[simp] theorem State.repeatWhileB_c' : s.repeatWhileB.c' = s.c' := by unfold State.repeatWhileB; split <;> simp_all
@[simp] theorem State.repeatWhileB_d' : s.repeatWhileB.d' = s.d' := by unfold State.repeatWhileB; split <;> simp_all
@[simp] theorem State.repeatWhileB_e' : s.repeatWhileB.e' = s.e' := by unfold State.repeatWhileB; split <;> simp_all
@[simp] theorem State.repeatWhileB_h' : s.repeatWhileB.h' = s.h' := by unfold State.repeatWhileB; split <;> simp_all
@[simp] theorem State.repeatWhileB_l' : s.repeatWhileB.l' = s.l' := by unfold State.repeatWhileB; split <;> simp_all
@[simp] theorem State.repeatWhileB_ix : s.repeatWhileB.ix = s.ix := by unfold State.repeatWhileB; split <;> simp_all
@[simp] theorem State.repeatWhileB_iy : s.repeatWhileB.iy = s.iy := by unfold State.repeatWhileB; split <;> simp_all
@[simp] theorem State.repeatWhileB_sp : s.repeatWhileB.sp = s.sp := by unfold State.repeatWhileB; split <;> simp_all
@[simp] theorem State.repeatWhileB_pc : s.repeatWhileB.pc = if s.b = 0 then s.pc + 2 else s.pc := by unfold State.repeatWhileB; split <;> simp_all
@[simp] theorem State.repeatWhileB_i : s.repeatWhileB.i = s.i := by unfold State.repeatWhileB; split <;> simp_all
@[simp] theorem State.repeatWhileB_r : s.repeatWhileB.r = s.r := by unfold State.repeatWhileB; split <;> simp_all
@[simp] theorem State.repeatWhileB_iff1 : s.repeatWhileB.iff1 = s.iff1 := by unfold State.repeatWhileB; split <;> simp_all
@[simp] theorem State.repeatWhileB_iff2 : s.repeatWhileB.iff2 = s.iff2 := by unfold State.repeatWhileB; split <;> simp_all
@[simp] theorem State.repeatWhileB_im : s.repeatWhileB.im = s.im := by unfold State.repeatWhileB; split <;> simp_all
@[simp] theorem State.repeatWhileB_halted : s.repeatWhileB.halted = s.halted := by unfold State.repeatWhileB; split <;> simp_all
@[simp] theorem State.repeatWhileB_eiShadow : s.repeatWhileB.eiShadow = s.eiShadow := by unfold State.repeatWhileB; split <;> simp_all
@[simp] theorem State.repeatWhileB_nmiPending : s.repeatWhileB.nmiPending = s.nmiPending := by unfold State.repeatWhileB; split <;> simp_all
@[simp] theorem State.repeatWhileB_mem : s.repeatWhileB.mem = s.mem := by unfold State.repeatWhileB; split <;> simp_all
@[simp] theorem State.repeatWhileB_memMap : s.repeatWhileB.memMap = s.memMap := by unfold State.repeatWhileB; split <;> simp_all
@[simp] theorem State.repeatWhileB_now : s.repeatWhileB.now = s.now := by unfold State.repeatWhileB; split <;> simp_all
@[simp] theorem State.repeatWhileB_inputs : s.repeatWhileB.inputs = s.inputs := by unfold State.repeatWhileB; split <;> simp_all
@[simp] theorem State.repeatWhileB_trace : s.repeatWhileB.trace = s.trace := by unfold State.repeatWhileB; split <;> simp_all
@[simp] theorem State.repeatWhileB_draws : s.repeatWhileB.draws = s.draws := by unfold State.repeatWhileB; split <;> simp_all
@[simp] theorem State.repeatWhileB_reg8 (q : Reg8)  : s.repeatWhileB.reg8 q = s.reg8 q := by cases q <;> simp [State.reg8]
@[simp] theorem State.repeatWhileB_flags : s.repeatWhileB.flags = s.flags := by simp [State.flags]
@[simp] theorem State.repeatWhileB_byteAt (a : Word)  : s.repeatWhileB.byteAt a = s.byteAt a := by simp [State.byteAt]
@[simp] theorem State.repeatWhileB_kindAt (a : Word)  : s.repeatWhileB.kindAt a = s.kindAt a := by simp [State.kindAt]
@[simp] theorem State.repeatWhileB_bc : s.repeatWhileB.bc = s.bc := by simp [State.bc]
@[simp] theorem State.repeatWhileB_de : s.repeatWhileB.de = s.de := by simp [State.de]
@[simp] theorem State.repeatWhileB_hl : s.repeatWhileB.hl = s.hl := by simp [State.hl]

/-! ## jumpRelative -/

@[simp] theorem State.jumpRelative_a (k : Bool) (v : Byte) : (s.jumpRelative k v).a = s.a := by unfold State.jumpRelative; split <;> rfl
@[simp] theorem State.jumpRelative_f (k : Bool) (v : Byte) : (s.jumpRelative k v).f = s.f := by unfold State.jumpRelative; split <;> rfl
@[simp] theorem State.jumpRelative_b (k : Bool) (v : Byte) : (s.jumpRelative k v).b = s.b := by unfold State.jumpRelative; split <;> rfl
@[simp] theorem State.jumpRelative_c (k : Bool) (v : Byte) : (s.jumpRelative k v).c = s.c := by unfold State.jumpRelative; split <;> rfl
@[simp] theorem State.jumpRelative_d (k : Bool) (v : Byte) : (s.jumpRelative k v).d = s.d := by unfold State.jumpRelative; split <;> rfl
@[simp] theorem State.jumpRelative_e (k : Bool) (v : Byte) : (s.jumpRelative k v).e = s.e := by unfold State.jumpRelative; split <;> rfl
@[simp] theorem State.jumpRelative_h (k : Bool) (v : Byte) : (s.jumpRelative k v).h = s.h := by unfold State.jumpRelative; split <;> rfl
@[simp] theorem State.jumpRelative_l (k : Bool) (v : Byte) : (s.jumpRelative k v).l = s.l := by unfold State.jumpRelative; split <;> rfl
@[simp] theorem State.jumpRelative_a' (k : Bool) (v : Byte) : (s.jumpRelative k v).a' = s.a' := by unfold State.jumpRelative; split <;> rfl
@[simp] theorem State.jumpRelative_f' (k : Bool) (v : Byte) : (s.jumpRelative k v).f' = s.f' := by unfold State.jumpRelative; split <;> rfl
@[simp] theorem State.jumpRelative_b' (k : Bool) (v : Byte) : (s.jumpRelative k v).b' = s.b' := by unfold State.jumpRelative; split <;> rfl
@[simp] theorem State.jumpRelative_c' (k : Bool) (v : Byte) : (s.jumpRelative k v).c' = s.c' := by unfold State.jumpRelative; split <;> rfl
@[simp] theorem State.jumpRelative_d' (k : Bool) (v : Byte) : (s.jumpRelative k v).d' = s.d' := by unfold State.jumpRelative; split <;> rfl
@[simp] theorem State.jumpRelative_e' (k : Bool) (v : Byte) : (s.jumpRelative k v).e' = s.e' := by unfold State.jumpRelative; split <;> rfl
@[simp] theorem State.jumpRelative_h' (k : Bool) (v : Byte) : (s.jumpRelative k v).h' = s.h' := by unfold State.jumpRelative; split <;> rfl
@[simp] theorem State.jumpRelative_l' (k : Bool) (v : Byte) : (s.jumpRelative k v).l' = s.l' := by unfold State.jumpRelative; split <;> rfl
@[simp] theorem State.jumpRelative_ix (k : Bool) (v : Byte) : (s.jumpRelative k v).ix = s.ix := by unfold State.jumpRelative; split <;> rfl
@[simp] theorem State.jumpRelative_iy (k : Bool) (v : Byte) : (s.jumpRelative k v).iy = s.iy := by unfold State.jumpRelative; split <;> rfl
@[simp] theorem State.jumpRelative_sp (k : Bool) (v : Byte) : (s.jumpRelative k v).sp = s.sp := by unfold State.jumpRelative; split <;> rfl
@[simp] theorem State.jumpRelative_pc (k : Bool) (v : Byte) : (s.jumpRelative k v).pc = if k = true then s.pc + 2 + sext16 v else s.pc + 2 := by unfold State.jumpRelative; split <;> rfl
@[simp] theorem State.jumpRelative_i (k : Bool) (v : Byte) : (s.jumpRelative k v).i = s.i := by unfold State.jumpRelative; split <;> rfl
@[simp] theorem State.jumpRelative_r (k : Bool) (v : Byte) : (s.jumpRelative k v).r = s.r := by unfold State.jumpRelative; split <;> rfl
@[simp] theorem State.jumpRelative_iff1 (k : Bool) (v : Byte) : (s.jumpRelative k v).iff1 = s.iff1 := by unfold State.jumpRelative; split <;> rfl
@[simp] theorem State.jumpRelative_iff2 (k : Bool) (v : Byte) : (s.jumpRelative k v).iff2 = s.iff2 := by unfold State.jumpRelative; split <;> rfl
@[simp] theorem State.jumpRelative_im (k : Bool) (v : Byte) : (s.jumpRelative k v).im = s.im := by unfold State.jumpRelative; split <;> rfl
@[simp] theorem State.jumpRelative_halted (k : Bool) (v : Byte) : (s.jumpRelative k v).halted = s.halted := by unfold State.jumpRelative; split <;> rfl
@[simp] theorem State.jumpRelative_eiShadow (k : Bool) (v : Byte) : (s.jumpRelative k v).eiShadow = s.eiShadow := by unfold State.jumpRelative; split <;> rfl
@[simp] theorem State.jumpRelative_nmiPending (k : Bool) (v : Byte) : (s.jumpRelative k v).nmiPending = s.nmiPending := by unfold State.jumpRelative; split <;> rfl
@[simp] theorem State.jumpRelative_mem (k : Bool) (v : Byte) : (s.jumpRelative k v).mem = s.mem := by unfold State.jumpRelative; split <;> rfl
@[simp] theorem State.jumpRelative_memMap (k : Bool) (v : Byte) : (s.jumpRelative k v).memMap = s.memMap := by unfold State.jumpRelative; split <;> rfl
@[simp] theorem State.jumpRelative_now (k : Bool) (v : Byte) : (s.jumpRelative k v).now = s.now := by unfold State.jumpRelative; split <;> rfl
@[simp] theorem State.jumpRelative_inputs (k : Bool) (v : Byte) : (s.jumpRelative k v).inputs = s.inputs := by unfold State.jumpRelative; split <;> rfl
@[simp] theorem State.jumpRelative_trace (k : Bool) (v : Byte) : (s.jumpRelative k v).trace = s.trace := by unfold State.jumpRelative; split <;> rfl
@[simp] theorem State.jumpRelative_draws (k : Bool) (v : Byte) : (s.jumpRelative k v).draws = s.draws := by unfold State.jumpRelative; split <;> rfl
@[simp] theorem State.jumpRelative_reg8 (q : Reg8) (k : Bool) (v : Byte) : (s.jumpRelative k v).reg8 q = s.reg8 q := by cases q <;> simp [State.reg8]
@[simp] theorem State.jumpRelative_flags (k : Bool) (v : Byte) : (s.jumpRelative k v).flags = s.flags := by simp [State.flags]
@[simp] theorem State.jumpRelative_byteAt (a : Word) (k : Bool) (v : Byte) : (s.jumpRelative k v).byteAt a = s.byteAt a := by simp [State.byteAt]
@[simp] theorem State.jumpRelative_kindAt (a : Word) (k : Bool) (v : Byte) : (s.jumpRelative k v).kindAt a = s.kindAt a := by simp [State.kindAt]
@[simp] theorem State.jumpRelative_bc (k : Bool) (v : Byte) : (s.jumpRelative k v).bc = s.bc := by simp [State.bc]
@[simp] theorem State.jumpRelative_de (k : Bool) (v : Byte) : (s.jumpRelative k v).de = s.de := by simp [State.de]
@[simp] theorem State.jumpRelative_hl (k : Bool) (v : Byte) : (s.jumpRelative k v).hl = s.hl := by simp [State.hl]

/-! ## callTo -/

@[simp] theorem State.callTo_a (w x : Word) : (s.callTo w x).a = s.a := by simp [State.callTo]
@[simp] theorem State.callTo_f (w x : Word) : (s.callTo w x).f = s.f := by simp [State.callTo]
@[simp] theorem State.callTo_b (w x : Word) : (s.callTo w x).b = s.b := by simp [State.callTo]
@[simp] theorem State.callTo_c (w x : Word) : (s.callTo w x).c = s.c := by simp [State.callTo]
@[simp] theorem State.callTo_d (w x : Word) : (s.callTo w x).d = s.d := by simp [State.callTo]
@[simp] theorem State.callTo_e (w x : Word) : (s.callTo w x).e = s.e := by simp [State.callTo]
@[simp] theorem State.callTo_h (w x : Word) : (s.callTo w x).h = s.h := by simp [State.callTo]
@[simp] theorem State.callTo_l (w x : Word) : (s.callTo w x).l = s.l := by simp [State.callTo]
@[simp] theorem State.callTo_a' (w x : Word) : (s.callTo w x).a' = s.a' := by simp [State.callTo]
@[simp] theorem State.callTo_f' (w x : Word) : (s.callTo w x).f' = s.f' := by simp [State.callTo]
@[simp] theorem State.callTo_b' (w x : Word) : (s.callTo w x).b' = s.b' := by simp [State.callTo]
@[simp] theorem State.callTo_c' (w x : Word) : (s.callTo w x).c' = s.c' := by simp [State.callTo]
@[simp] theorem State.callTo_d' (w x : Word) : (s.callTo w x).d' = s.d' := by simp [State.callTo]
@[simp] theorem State.callTo_e' (w x : Word) : (s.callTo w x).e' = s.e' := by simp [State.callTo]
@[simp] theorem State.callTo_h' (w x : Word) : (s.callTo w x).h' = s.h' := by simp [State.callTo]
@[simp] theorem State.callTo_l' (w x : Word) : (s.callTo w x).l' = s.l' := by simp [State.callTo]
@[simp] theorem State.callTo_ix (w x : Word) : (s.callTo w x).ix = s.ix := by simp [State.callTo]
@[simp] theorem State.callTo_iy (w x : Word) : (s.callTo w x).iy = s.iy := by simp [State.callTo]
@[simp] theorem State.callTo_sp (w x : Word) : (s.callTo w x).sp = s.sp - 2 := by simp [State.callTo]
@[simp] theorem State.callTo_pc (w x : Word) : (s.callTo w x).pc = w := by simp [State.callTo]
@[simp] theorem State.callTo_i (w x : Word) : (s.callTo w x).i = s.i := by simp [State.callTo]
@[simp] theorem State.callTo_r (w x : Word) : (s.callTo w x).r = s.r := by simp [State.callTo]
@[simp] theorem State.callTo_iff1 (w x : Word) : (s.callTo w x).iff1 = s.iff1 := by simp [State.callTo]
@[simp] theorem State.callTo_iff2 (w x : Word) : (s.callTo w x).iff2 = s.iff2 := by simp [State.callTo]
@[simp] theorem State.callTo_im (w x : Word) : (s.callTo w x).im = s.im := by simp [State.callTo]
@[simp] theorem State.callTo_halted (w x : Word) : (s.callTo w x).halted = s.halted := by simp [State.callTo]
@[simp] theorem State.callTo_eiShadow (w x : Word) : (s.callTo w x).eiShadow = s.eiShadow := by simp [State.callTo]
@[simp] theorem State.callTo_nmiPending (w x : Word) : (s.callTo w x).nmiPending = s.nmiPending := by simp [State.callTo]
@[simp] theorem State.callTo_memMap (w x : Word) : (s.callTo w x).memMap = s.memMap := by simp [State.callTo]
@[simp] theorem State.callTo_now (w x : Word) : (s.callTo w x).now = s.now := by simp [State.callTo]
@[simp] theorem State.callTo_inputs (w x : Word) : (s.callTo w x).inputs = s.inputs := by simp [State.callTo]
@[simp] theorem State.callTo_draws (w x : Word) : (s.callTo w x).draws = s.draws := by simp [State.callTo]
@[simp] theorem State.callTo_reg8 (q : Reg8) (w x : Word) : (s.callTo w x).reg8 q = s.reg8 q := by cases q <;> simp [State.reg8]
@[simp] theorem State.callTo_flags (w x : Word) : (s.callTo w x).flags = s.flags := by simp [State.flags]
@[simp] theorem State.callTo_kindAt (a : Word) (w x : Word) : (s.callTo w x).kindAt a = s.kindAt a := by simp [State.kindAt]
@[simp] theorem State.callTo_bc (w x : Word) : (s.callTo w x).bc = s.bc := by simp [State.bc]
@[simp] theorem State.callTo_de (w x : Word) : (s.callTo w x).de = s.de := by simp [State.de]
@[simp] theorem State.callTo_hl (w x : Word) : (s.callTo w x).hl = s.hl := by simp [State.hl]

/-! ## returnPop -/

@[simp] theorem State.returnPop_a : s.returnPop.a = s.a := by simp [State.returnPop]
@[simp] theorem State.returnPop_f : s.returnPop.f = s.f := by simp [State.returnPop]
@[simp] theorem State.returnPop_b : s.returnPop.b = s.b := by simp [State.returnPop]
@[simp] theorem State.returnPop_c : s.returnPop.c = s.c := by simp [State.returnPop]
@[simp] theorem State.returnPop_d : s.returnPop.d = s.d := by simp [State.returnPop]
@[simp] theorem State.returnPop_e : s.returnPop.e = s.e := by simp [State.returnPop]
@[simp] theorem State.returnPop_h : s.returnPop.h = s.h := by simp [State.returnPop]
@[simp] theorem State.returnPop_l : s.returnPop.l = s.l := by simp [State.returnPop]
@[simp] theorem State.returnPop_a' : s.returnPop.a' = s.a' := by simp [State.returnPop]
@[simp] theorem State.returnPop_f' : s.returnPop.f' = s.f' := by simp [State.returnPop]
@[simp] theorem State.returnPop_b' : s.returnPop.b' = s.b' := by simp [State.returnPop]
@[simp] theorem State.returnPop_c' : s.returnPop.c' = s.c' := by simp [State.returnPop]
@[simp] theorem State.returnPop_d' : s.returnPop.d' = s.d' := by simp [State.returnPop]
@[simp] theorem State.returnPop_e' : s.returnPop.e' = s.e' := by simp [State.returnPop]
@[simp] theorem State.returnPop_h' : s.returnPop.h' = s.h' := by simp [State.returnPop]
@[simp] theorem State.returnPop_l' : s.returnPop.l' = s.l' := by simp [State.returnPop]
@[simp] theorem State.returnPop_ix : s.returnPop.ix = s.ix := by simp [State.returnPop]
@[simp] theorem State.returnPop_iy : s.returnPop.iy = s.iy := by simp [State.returnPop]
@[simp] theorem State.returnPop_sp : s.returnPop.sp = s.sp + 2 := by simp [State.returnPop]
@[simp] theorem State.returnPop_pc : s.returnPop.pc = s.pop16.1 := by simp [State.returnPop]
@[simp] theorem State.returnPop_i : s.returnPop.i = s.i := by simp [State.returnPop]
@[simp] theorem State.returnPop_r : s.returnPop.r = s.r := by simp [State.returnPop]
@[simp] theorem State.returnPop_iff1 : s.returnPop.iff1 = s.iff1 := by simp [State.returnPop]
@[simp] theorem State.returnPop_iff2 : s.returnPop.iff2 = s.iff2 := by simp [State.returnPop]
@[simp] theorem State.returnPop_im : s.returnPop.im = s.im := by simp [State.returnPop]
@[simp] theorem State.returnPop_halted : s.returnPop.halted = s.halted := by simp [State.returnPop]
@[simp] theorem State.returnPop_eiShadow : s.returnPop.eiShadow = s.eiShadow := by simp [State.returnPop]
@[simp] theorem State.returnPop_nmiPending : s.returnPop.nmiPending = s.nmiPending := by simp [State.returnPop]
@[simp] theorem State.returnPop_mem : s.returnPop.mem = s.mem := by simp [State.returnPop]
@[simp] theorem State.returnPop_memMap : s.returnPop.memMap = s.memMap := by simp [State.returnPop]
@[simp] theorem State.returnPop_now : s.returnPop.now = s.now := by simp [State.returnPop]
@[simp] theorem State.returnPop_inputs : s.returnPop.inputs = s.inputs := by simp [State.returnPop]
@[simp] theorem State.returnPop_reg8 (q : Reg8)  : s.returnPop.reg8 q = s.reg8 q := by cases q <;> simp [State.reg8]
@[simp] theorem State.returnPop_flags : s.returnPop.flags = s.flags := by simp [State.flags]
@[simp] theorem State.returnPop_byteAt (a : Word)  : s.returnPop.byteAt a = s.byteAt a := by simp [State.byteAt]
@[simp] theorem State.returnPop_kindAt (a : Word)  : s.returnPop.kindAt a = s.kindAt a := by simp [State.kindAt]
@[simp] theorem State.returnPop_bc : s.returnPop.bc = s.bc := by simp [State.bc]
@[simp] theorem State.returnPop_de : s.returnPop.de = s.de := by simp [State.de]
@[simp] theorem State.returnPop_hl : s.returnPop.hl = s.hl := by simp [State.hl]

end Sys2Proof.Machine
end

