-- ==== Sys2Proof/Laws/Memory.lean ====
section
/-!
SUPPORT. The laws of memory: reading after writing, and that every operation keeps the canonical form; what each
shared access operation can do, said once.
-/

namespace Sys2Proof.Machine

/-! ## Reading after writing -/

theorem Memory.read_erase (m : Memory) (a b : Nat) :
    Memory.read a (m.erase b) = if a = b then Memory.unlisted else Memory.read a m := by
  induction m with
  | nil => simp [Memory.erase, Memory.read]
  | cons x m ih =>
    obtain ⟨k, w⟩ := x
    simp only [Memory.erase, List.filter_cons] at ih ⊢
    by_cases hk : k = b
    · subst hk
      simp only [bne_self_eq_false, Bool.false_eq_true, ↓reduceIte, ih, Memory.read]
      split <;> simp_all [eq_comm]
    · simp only [bne_iff_ne, ne_eq, hk, not_false_eq_true, ↓reduceIte, Memory.read, ih]
      split <;> simp_all

theorem Memory.read_insert (m : Memory) (a b : Nat) (v : Byte) (h : ∀ x ∈ m, x.1 ≠ b) :
    Memory.read a (Memory.insert b v m) = if a = b then v else Memory.read a m := by
  induction m with
  | nil => simp [Memory.insert, Memory.read, eq_comm]
  | cons x m ih =>
    obtain ⟨k, w⟩ := x
    have hk : k ≠ b := h (k, w) (by simp)
    have ih := ih fun x hx => h x (by simp [hx])
    simp only [Memory.insert]
    split
    · simp [Memory.read, eq_comm]
    · simp only [Memory.read, ih]
      by_cases hab : a = b
      · subst hab; simp [hk]
      · simp [hab]

theorem Memory.mem_erase_ne (m : Memory) (a : Nat) : ∀ x ∈ m.erase a, x.1 ≠ a := by
  intro x hx
  simp only [Memory.erase, List.mem_filter, bne_iff_ne] at hx
  exact hx.2

/-- Reading an address after a write gives the value written there, and elsewhere what it gave before. -/
theorem Memory.read_write (m : Memory) (a b : Nat) (v : Byte) :
    Memory.read a (m.write b v) = if a = b then v else Memory.read a m := by
  unfold Memory.write
  split
  · next h => rw [Memory.read_erase, h]
  · rw [Memory.read_insert _ _ _ _ (Memory.mem_erase_ne m b), Memory.read_erase]
    split <;> rfl

/-! ## The canonical form -/

theorem Memory.wfFrom_mono (m : Memory) {lo lo' : Nat} (h : lo' ≤ lo) (hm : Memory.wfFrom lo m = true) :
    Memory.wfFrom lo' m = true := by
  cases m with
  | nil => rfl
  | cons x m =>
    simp only [Memory.wfFrom, Bool.and_eq_true, decide_eq_true_eq] at hm ⊢
    exact ⟨⟨⟨by omega, hm.1.1.2⟩, hm.1.2⟩, hm.2⟩

theorem Memory.wfFrom_erase (m : Memory) (a lo : Nat) (hm : Memory.wfFrom lo m = true) :
    Memory.wfFrom lo (m.erase a) = true := by
  induction m generalizing lo with
  | nil => rfl
  | cons x m ih =>
    simp only [Memory.wfFrom, Bool.and_eq_true, decide_eq_true_eq] at hm
    have ih' := ih _ hm.2
    simp only [Memory.erase, List.filter_cons] at ih' ⊢
    split
    · simp only [Memory.wfFrom, Bool.and_eq_true, decide_eq_true_eq]
      exact ⟨hm.1, ih'⟩
    · exact Memory.wfFrom_mono _ (by omega) ih'

theorem Memory.wfFrom_insert (m : Memory) (a : Nat) (v : Byte) (ha : a < 65536) (hv : v ≠ Memory.unlisted)
    (lo : Nat) (hlo : lo ≤ a) (hm : Memory.wfFrom lo m = true) (hne : ∀ x ∈ m, x.1 ≠ a) :
    Memory.wfFrom lo (Memory.insert a v m) = true := by
  induction m generalizing lo with
  | nil => simp [Memory.insert, Memory.wfFrom, ha, hlo, hv]
  | cons x m ih =>
    obtain ⟨k, w⟩ := x
    have hk : k ≠ a := hne (k, w) (by simp)
    simp only [Memory.wfFrom, Bool.and_eq_true, decide_eq_true_eq] at hm
    simp only [Memory.insert]
    split
    · next hlt =>
      simp only [Memory.wfFrom, Bool.and_eq_true, decide_eq_true_eq, bne_iff_ne]
      refine ⟨⟨⟨hlo, ha⟩, hv⟩, ⟨⟨by omega, hm.1.1.2⟩, by simpa using hm.1.2⟩, hm.2⟩
    · next hge =>
      simp only [Memory.wfFrom, Bool.and_eq_true, decide_eq_true_eq]
      exact ⟨hm.1, ih (k + 1) (by omega) hm.2 fun x hx => hne x (by simp [hx])⟩

/-- A write keeps the canonical form. -/
theorem Memory.wf_write (m : Memory) (a : Nat) (v : Byte) (ha : a < 65536) (hm : Memory.wf m = true) :
    Memory.wf (m.write a v) = true := by
  unfold Memory.write Memory.wf
  split
  · exact Memory.wfFrom_erase m a 0 hm
  · next hv =>
    exact Memory.wfFrom_insert _ a v ha hv 0 (by omega) (Memory.wfFrom_erase m a 0 hm) (Memory.mem_erase_ne m a)

/-- The memory of the reset state is in canonical form. -/
theorem Memory.wf_reset : Memory.wf State.reset.mem = true := rfl

/-! ## The access operations, each said once -/

/-- A write: what memory holds at each address after it. -/
theorem State.byteAt_write8 (s : State) (a b : Word) (v : Byte) :
    (s.write8 b v).byteAt a = if a = b ∧ s.kindAt b = .ram then v else s.byteAt a := by
  simp only [State.byteAt, State.write8]
  split <;> simp_all [Memory.read_write, BitVec.toNat_inj]

/-- A write: what the trace is after it. -/
theorem State.trace_write8 (s : State) (b : Word) (v : Byte) :
    (s.write8 b v).trace = s.trace ++ writeEvents b v s := by
  simp only [State.write8, writeEvents]
  split <;> simp_all

/-- A write keeps the canonical form. -/
theorem State.wf_write8 (s : State) (b : Word) (v : Byte) (h : Memory.wf s.mem = true) :
    Memory.wf (s.write8 b v).mem = true := by
  simp only [State.write8]
  split
  · exact Memory.wf_write _ _ _ b.isLt h
  all_goals exact h

/-- A read: the value, where memory answers. -/
theorem State.read8_value (s : State) (a : Word) (h : s.readable a) : (s.read8 a).1 = s.byteAt a := by
  simp only [State.read8, State.byteAt]
  rcases h with h | h <;> rw [h]

/-- A read: the state, where memory answers. -/
theorem State.read8_state (s : State) (a : Word) (h : s.readable a) : (s.read8 a).2 = s := by
  simp only [State.read8]
  rcases h with h | h <;> rw [h]

/-- A read: what the trace is after it. -/
theorem State.trace_read8 (s : State) (a : Word) : (s.read8 a).2.trace = s.trace ++ readEvents a s := by
  simp only [State.read8, readEvents, readEventsAfter]
  split <;> simp_all

/-- What an address is depends on the memory map alone. -/
theorem State.kindAt_of_memMap {s t : State} (a : Word) (h : t.memMap = s.memMap) : t.kindAt a = s.kindAt a := by
  simp [State.kindAt, h]

/-- A push: memory after it. -/
theorem State.byteAt_push16 (s : State) (a v : Word) :
    (s.push16 v).byteAt a =
      if a = s.sp - 2 ∧ s.kindAt (s.sp - 2) = .ram then loByte v
      else if a = s.sp - 1 ∧ s.kindAt (s.sp - 1) = .ram then hiByte v
      else s.byteAt a := by
  have : (s.push16 v).byteAt a = ((s.write8 (s.sp - 1) (hiByte v)).write8 (s.sp - 2) (loByte v)).byteAt a := rfl
  rw [this, State.byteAt_write8, State.byteAt_write8, State.write8_kindAt]

/-- A push: the trace after it, the high byte first. -/
theorem State.trace_push16 (s : State) (v : Word) :
    (s.push16 v).trace =
      s.trace ++ writeEvents (s.sp - 1) (hiByte v) s ++ writeEvents (s.sp - 2) (loByte v) s := by
  have : (s.push16 v).trace = ((s.write8 (s.sp - 1) (hiByte v)).write8 (s.sp - 2) (loByte v)).trace := rfl
  rw [this, State.trace_write8, State.trace_write8]
  simp [writeEvents]

/-- A push keeps the canonical form. -/
theorem State.wf_push16 (s : State) (v : Word) (h : Memory.wf s.mem = true) :
    Memory.wf (s.push16 v).mem = true :=
  State.wf_write8 _ _ _ (State.wf_write8 _ _ _ h)

/-- A 16-bit write keeps the canonical form. -/
theorem State.wf_write16 (s : State) (a v : Word) (h : Memory.wf s.mem = true) :
    Memory.wf (s.write16 a v).mem = true :=
  State.wf_write8 _ _ _ (State.wf_write8 _ _ _ h)

/-- A 16-bit read where memory answers: little-endian, and nothing changes. -/
theorem State.read16_value (s : State) (a : Word) (h : s.readable a) (h' : s.readable (a + 1)) :
    s.read16 a = (joinBytes (s.byteAt (a + 1)) (s.byteAt a), s) := by
  simp only [State.read16, State.read8_state s a h, State.read8_value s a h, State.read8_value s _ h',
    State.read8_state s _ h']

/-- A 16-bit read: the word, low byte first. -/
theorem State.read16_word (s : State) (a : Word) : (s.read16 a).1 = wordReadAt a s := rfl

/-- A 16-bit read: the trace after it, the low byte's read first. -/
theorem State.trace_read16 (s : State) (a : Word) : (s.read16 a).2.trace = s.trace ++ wordReadEvents a s := by
  have h : (s.read16 a).2.trace = ((s.read8 a).2.read8 (a + 1)).2.trace := rfl
  rw [h, State.trace_read8, readEvents, readEventsAfter, State.trace_read8, State.kindAt_of_memMap _ (s.read8_memMap a),
    wordReadEvents, wordReadEventsAfter, ← List.append_assoc]
  rfl

/-! ## Bytes and words, flags -/

theorem toNat_joinBytes (a b : Byte) : (joinBytes a b).toNat = a.toNat * 256 + b.toNat := by
  have h : (joinBytes a b).toNat = a.toNat <<< 8 ||| b.toNat := BitVec.toNat_append a b
  rw [h, ← Nat.shiftLeft_add_eq_or_of_lt b.isLt, Nat.shiftLeft_eq]

theorem toNat_hiByte (w : Word) : (hiByte w).toNat = w.toNat / 256 := by
  have := w.isLt
  simp [hiByte, Nat.shiftRight_eq_div_pow]
  omega

theorem toNat_loByte (w : Word) : (loByte w).toNat = w.toNat % 256 := by simp [loByte]

@[simp] theorem joinBytes_hi_lo (w : Word) : joinBytes (hiByte w) (loByte w) = w := by
  apply BitVec.eq_of_toNat_eq
  rw [toNat_joinBytes, toNat_hiByte, toNat_loByte]
  omega

@[simp] theorem hiByte_joinBytes (a b : Byte) : hiByte (joinBytes a b) = a := by
  apply BitVec.eq_of_toNat_eq
  rw [toNat_hiByte, toNat_joinBytes]
  omega

@[simp] theorem loByte_joinBytes (a b : Byte) : loByte (joinBytes a b) = b := by
  apply BitVec.eq_of_toNat_eq
  rw [toNat_loByte, toNat_joinBytes]
  omega

@[simp] theorem flagBits_packFlags (x : FlagBits) (b5 b3 : Bool) : flagBits (packFlags x b5 b3) = x := by
  obtain ⟨s, z, h, p, n, c⟩ := x
  revert s z h p n c b5 b3
  decide

/-- A write of the flags writes exactly the six it is given. -/
@[simp] theorem State.flags_writeFlags (s : State) (x : FlagBits) : (s.writeFlags x).flags = x :=
  flagBits_packFlags x _ _

/-- A register reads as it was written, the others as before. -/
@[simp] theorem State.reg8_setReg8 (s : State) (q q' : Reg8) (v : Byte) :
    (s.setReg8 q v).reg8 q' = if q' = q then v else s.reg8 q' := by
  cases q <;> cases q' <;> rfl

@[simp] theorem State.reg8_setA (s : State) (q : Reg8) (v : Byte) :
    (s.setA v).reg8 q = if q = .a then v else s.reg8 q := by cases q <;> rfl

@[simp] theorem State.reg8_setB (s : State) (q : Reg8) (v : Byte) :
    (s.setB v).reg8 q = if q = .b then v else s.reg8 q := by cases q <;> rfl

@[simp] theorem State.bc_setBC (s : State) (w : Word) : (s.setBC w).bc = w := by simp [State.bc]
@[simp] theorem State.de_setDE (s : State) (w : Word) : (s.setDE w).de = w := by simp [State.de]
@[simp] theorem State.hl_setHL (s : State) (w : Word) : (s.setHL w).hl = w := by simp [State.hl]
@[simp] theorem State.af_setAF (s : State) (w : Word) : (s.setAF w).af = w := by simp [State.af]

@[simp] theorem State.pairDD_setPairDD (s : State) (p : PairDD) (w : Word) : (s.setPairDD p w).pairDD p = w := by
  cases p <;> simp [State.setPairDD, State.pairDD]

@[simp] theorem State.pairQQ_setPairQQ (s : State) (p : PairQQ) (w : Word) : (s.setPairQQ p w).pairQQ p = w := by
  cases p <;> simp [State.setPairQQ, State.pairQQ]

end Sys2Proof.Machine
end

