-- ==== Sys2Proof/Laws/Frame.lean ====
section
/-!
SUPPORT. Frames: what each shared operation can change, and how frames compose.
-/

namespace Sys2Proof.Machine

/-! ## Composition -/

theorem changesOnly.refl (ps : List Piece) (s : State) : changesOnly ps s s := by
  intro p _
  cases p <;> rfl

theorem changesOnly.trans {ps : List Piece} {s t u : State} (h : changesOnly ps s t) (h' : changesOnly ps t u) :
    changesOnly ps s u := by
  intro p hp
  have h1 := h p hp
  have h2 := h' p hp
  cases p <;> exact Eq.trans h2 h1

theorem changesOnly.mono {ps qs : List Piece} {s t : State} (h : changesOnly ps s t) (hq : ps ⊆ qs) :
    changesOnly qs s t := fun p hp => h p fun hp' => hp (hq hp')

/-- One more operation after a framed run. -/
theorem changesOnly.andThen {ps qs : List Piece} {s t u : State} (h : changesOnly ps s t) (h' : changesOnly qs t u)
    (hq : qs ⊆ ps) : changesOnly ps s u := h.trans (h'.mono hq)

/-! ## What each shared operation can change -/

section
variable (s : State)

theorem State.frame_jumpTo (w : Word) : changesOnly [.pc] s (s.jumpTo w) := by
  intro p hp; cases p <;> simp_all [Piece.same]

theorem State.frame_advance (n : Word) : changesOnly [.pc] s (s.advance n) := by
  intro p hp; cases p <;> simp_all [Piece.same]

theorem State.frame_countFetches (n : Nat) : changesOnly [.r] s (s.countFetches n) := by
  intro p hp; cases p <;> simp_all [Piece.same]

theorem State.frame_sample : changesOnly [.now, .inputs, .nmiPending] s s.sample := by
  intro p hp; cases p <;> simp_all [Piece.same]

theorem State.frame_record (ev : BusEvent) : changesOnly [.trace] s (s.record ev) := by
  intro p hp; cases p <;> simp_all [Piece.same]

theorem State.frame_anyBit : changesOnly [.draws] s s.anyBit.2 := by
  intro p hp; cases p <;> simp_all [Piece.same]

theorem State.frame_anyByte : changesOnly [.draws] s s.anyByte.2 := by
  intro p hp; cases p <;> simp_all [Piece.same]

theorem State.frame_writeFlags (x : FlagBits) : changesOnly [.f, .draws] s (s.writeFlags x) := by
  intro p hp; cases p <;> simp_all [Piece.same]

theorem State.frame_setReg8 (q : Reg8) (v : Byte) : changesOnly [.reg q] s (s.setReg8 q v) := by
  intro p hp; cases p <;> simp_all [Piece.same]

theorem State.frame_setA (v : Byte) : changesOnly [.reg .a] s (s.setA v) := s.frame_setReg8 .a v
theorem State.frame_setB (v : Byte) : changesOnly [.reg .b] s (s.setB v) := s.frame_setReg8 .b v

theorem State.frame_setPairDD (p : PairDD) (w : Word) : changesOnly (WordReg.dd p).pieces s (s.setPairDD p w) := by
  intro q hq
  cases p <;> cases q <;> simp_all [Piece.same, State.setPairDD, WordReg.pieces]
  all_goals (next q => cases q <;> simp_all [State.reg8])

theorem State.frame_setPairQQ (p : PairQQ) (w : Word) : changesOnly (WordReg.qq p).pieces s (s.setPairQQ p w) := by
  intro q hq
  cases p <;> cases q <;> simp_all [Piece.same, State.setPairQQ, WordReg.pieces]
  all_goals (next q => cases q <;> simp_all [State.reg8])

theorem State.frame_setBC (w : Word) : changesOnly [.reg .b, .reg .c] s (s.setBC w) := s.frame_setPairDD .bc w
theorem State.frame_setDE (w : Word) : changesOnly [.reg .d, .reg .e] s (s.setDE w) := s.frame_setPairDD .de w
theorem State.frame_setHL (w : Word) : changesOnly [.reg .h, .reg .l] s (s.setHL w) := s.frame_setPairDD .hl w
theorem State.frame_setSP (w : Word) : changesOnly [.sp] s (s.setSP w) := s.frame_setPairDD .sp w
theorem State.frame_setIX (w : Word) : changesOnly [.ix] s (s.setIX w) := by
  intro p hp; cases p <;> simp_all [Piece.same]
theorem State.frame_setIY (w : Word) : changesOnly [.iy] s (s.setIY w) := by
  intro p hp; cases p <;> simp_all [Piece.same]

theorem State.frame_read8 (a : Word) : changesOnly [.trace, .draws] s (s.read8 a).2 := by
  intro p hp; cases p <;> simp_all [Piece.same]

theorem State.frame_write8 (a : Word) (v : Byte) : changesOnly [.byte a, .trace] s (s.write8 a v) := by
  intro p hp; cases p <;> simp_all [Piece.same, State.byteAt_write8]

theorem State.frame_read16 (a : Word) : changesOnly [.trace, .draws] s (s.read16 a).2 := by
  intro p hp; cases p <;> simp_all [Piece.same]

theorem State.frame_write16 (a v : Word) : changesOnly [.byte a, .byte (a + 1), .trace] s (s.write16 a v) :=
  ((s.frame_write8 a (loByte v)).mono (by simp)).andThen (State.frame_write8 _ _ _) (by simp)

theorem State.frame_push16 (v : Word) :
    changesOnly [.sp, .byte (s.sp - 1), .byte (s.sp - 2), .trace] s (s.push16 v) := by
  intro p hp; cases p <;> simp_all [Piece.same, State.byteAt_push16]

theorem State.frame_pop16 : changesOnly [.sp, .trace, .draws] s s.pop16.2 := by
  intro p hp; cases p <;> simp_all [Piece.same]

theorem State.frame_portIn (w : Word) : changesOnly [.trace] s (s.portIn w).2 := by
  intro p hp; cases p <;> simp_all [Piece.same]

theorem State.frame_portOut (w : Word) (v : Byte) : changesOnly [.trace] s (s.portOut w v) := by
  intro p hp; cases p <;> simp_all [Piece.same]

theorem State.frame_repeatWhile (k : Bool) : changesOnly [.pc] s (s.repeatWhile k) := by
  intro p hp; cases p <;> simp_all [Piece.same]

theorem State.frame_repeatWhileB : changesOnly [.pc] s s.repeatWhileB := by
  intro p hp; cases p <;> simp_all [Piece.same]

theorem State.frame_jumpRelative (k : Bool) (e : Byte) : changesOnly [.pc] s (s.jumpRelative k e) := by
  intro p hp; cases p <;> simp_all [Piece.same]

theorem State.frame_callTo (w x : Word) :
    changesOnly [.pc, .sp, .byte (s.sp - 1), .byte (s.sp - 2), .trace] s (s.callTo w x) :=
  ((s.frame_push16 x).mono (by simp)).andThen (State.frame_jumpTo _ _) (by simp)

theorem State.frame_returnPop : changesOnly [.pc, .sp, .trace, .draws] s s.returnPop :=
  ((s.frame_pop16).mono (by simp)).andThen (State.frame_jumpTo _ _) (by simp)

end

end Sys2Proof.Machine
end

