-- ==== Sys2Proof/Laws/PerInstr.lean ====
section
/-!
SUPPORT. Statements about every instruction as syntax, with one lemma a constructor.
-/

namespace Sys2Proof.Laws

/-- An instruction is 1 to 4 bytes long (R90 of 30_encoding.md). -/
def EncodedLength.Statement (i : Instr) : Prop := 1 ≤ (encode i).length ∧ (encode i).length ≤ 4

theorem EncodedLength.ldRegReg (r r' : Reg8) : EncodedLength.Statement (.ldRegReg r r') :=
  ⟨of_decide_eq_true rfl, of_decide_eq_true rfl⟩
theorem EncodedLength.ldRegImm (r : Reg8) (n : Byte) : EncodedLength.Statement (.ldRegImm r n) :=
  ⟨of_decide_eq_true rfl, of_decide_eq_true rfl⟩
theorem EncodedLength.ldRegAtHL (r : Reg8) : EncodedLength.Statement (.ldRegAtHL r) :=
  ⟨of_decide_eq_true rfl, of_decide_eq_true rfl⟩
theorem EncodedLength.ldRegAtIX (r : Reg8) (d : Byte) : EncodedLength.Statement (.ldRegAtIX r d) :=
  ⟨of_decide_eq_true rfl, of_decide_eq_true rfl⟩
theorem EncodedLength.ldRegAtIY (r : Reg8) (d : Byte) : EncodedLength.Statement (.ldRegAtIY r d) :=
  ⟨of_decide_eq_true rfl, of_decide_eq_true rfl⟩
theorem EncodedLength.ldAtHLReg (r : Reg8) : EncodedLength.Statement (.ldAtHLReg r) :=
  ⟨of_decide_eq_true rfl, of_decide_eq_true rfl⟩
theorem EncodedLength.ldAtIXReg (d : Byte) (r : Reg8) : EncodedLength.Statement (.ldAtIXReg d r) :=
  ⟨of_decide_eq_true rfl, of_decide_eq_true rfl⟩
theorem EncodedLength.ldAtIYReg (d : Byte) (r : Reg8) : EncodedLength.Statement (.ldAtIYReg d r) :=
  ⟨of_decide_eq_true rfl, of_decide_eq_true rfl⟩
theorem EncodedLength.ldAtHLImm (n : Byte) : EncodedLength.Statement (.ldAtHLImm n) :=
  ⟨of_decide_eq_true rfl, of_decide_eq_true rfl⟩
theorem EncodedLength.ldAtIXImm (d n : Byte) : EncodedLength.Statement (.ldAtIXImm d n) :=
  ⟨of_decide_eq_true rfl, of_decide_eq_true rfl⟩
theorem EncodedLength.ldAtIYImm (d n : Byte) : EncodedLength.Statement (.ldAtIYImm d n) :=
  ⟨of_decide_eq_true rfl, of_decide_eq_true rfl⟩
theorem EncodedLength.ldAAtBC : EncodedLength.Statement .ldAAtBC :=
  ⟨of_decide_eq_true rfl, of_decide_eq_true rfl⟩
theorem EncodedLength.ldAAtDE : EncodedLength.Statement .ldAAtDE :=
  ⟨of_decide_eq_true rfl, of_decide_eq_true rfl⟩
theorem EncodedLength.ldAAtNN (nn : Word) : EncodedLength.Statement (.ldAAtNN nn) :=
  ⟨of_decide_eq_true rfl, of_decide_eq_true rfl⟩
theorem EncodedLength.ldAtBCA : EncodedLength.Statement .ldAtBCA :=
  ⟨of_decide_eq_true rfl, of_decide_eq_true rfl⟩
theorem EncodedLength.ldAtDEA : EncodedLength.Statement .ldAtDEA :=
  ⟨of_decide_eq_true rfl, of_decide_eq_true rfl⟩
theorem EncodedLength.ldAtNNA (nn : Word) : EncodedLength.Statement (.ldAtNNA nn) :=
  ⟨of_decide_eq_true rfl, of_decide_eq_true rfl⟩
theorem EncodedLength.ldAI : EncodedLength.Statement .ldAI :=
  ⟨of_decide_eq_true rfl, of_decide_eq_true rfl⟩
theorem EncodedLength.ldAR : EncodedLength.Statement .ldAR :=
  ⟨of_decide_eq_true rfl, of_decide_eq_true rfl⟩
theorem EncodedLength.ldIA : EncodedLength.Statement .ldIA :=
  ⟨of_decide_eq_true rfl, of_decide_eq_true rfl⟩
theorem EncodedLength.ldRA : EncodedLength.Statement .ldRA :=
  ⟨of_decide_eq_true rfl, of_decide_eq_true rfl⟩
theorem EncodedLength.ldPairImm (p : PairDD) (nn : Word) : EncodedLength.Statement (.ldPairImm p nn) :=
  ⟨of_decide_eq_true rfl, of_decide_eq_true rfl⟩
theorem EncodedLength.ldIXImm (nn : Word) : EncodedLength.Statement (.ldIXImm nn) :=
  ⟨of_decide_eq_true rfl, of_decide_eq_true rfl⟩
theorem EncodedLength.ldIYImm (nn : Word) : EncodedLength.Statement (.ldIYImm nn) :=
  ⟨of_decide_eq_true rfl, of_decide_eq_true rfl⟩
theorem EncodedLength.ldHLAtNN (nn : Word) : EncodedLength.Statement (.ldHLAtNN nn) :=
  ⟨of_decide_eq_true rfl, of_decide_eq_true rfl⟩
theorem EncodedLength.ldPairAtNN (p : PairDD) (nn : Word) : EncodedLength.Statement (.ldPairAtNN p nn) :=
  ⟨of_decide_eq_true rfl, of_decide_eq_true rfl⟩
theorem EncodedLength.ldIXAtNN (nn : Word) : EncodedLength.Statement (.ldIXAtNN nn) :=
  ⟨of_decide_eq_true rfl, of_decide_eq_true rfl⟩
theorem EncodedLength.ldIYAtNN (nn : Word) : EncodedLength.Statement (.ldIYAtNN nn) :=
  ⟨of_decide_eq_true rfl, of_decide_eq_true rfl⟩
theorem EncodedLength.ldAtNNHL (nn : Word) : EncodedLength.Statement (.ldAtNNHL nn) :=
  ⟨of_decide_eq_true rfl, of_decide_eq_true rfl⟩
theorem EncodedLength.ldAtNNPair (nn : Word) (p : PairDD) : EncodedLength.Statement (.ldAtNNPair nn p) :=
  ⟨of_decide_eq_true rfl, of_decide_eq_true rfl⟩
theorem EncodedLength.ldAtNNIX (nn : Word) : EncodedLength.Statement (.ldAtNNIX nn) :=
  ⟨of_decide_eq_true rfl, of_decide_eq_true rfl⟩
theorem EncodedLength.ldAtNNIY (nn : Word) : EncodedLength.Statement (.ldAtNNIY nn) :=
  ⟨of_decide_eq_true rfl, of_decide_eq_true rfl⟩
theorem EncodedLength.ldSPHL : EncodedLength.Statement .ldSPHL :=
  ⟨of_decide_eq_true rfl, of_decide_eq_true rfl⟩
theorem EncodedLength.ldSPIX : EncodedLength.Statement .ldSPIX :=
  ⟨of_decide_eq_true rfl, of_decide_eq_true rfl⟩
theorem EncodedLength.ldSPIY : EncodedLength.Statement .ldSPIY :=
  ⟨of_decide_eq_true rfl, of_decide_eq_true rfl⟩
theorem EncodedLength.pushPair (q : PairQQ) : EncodedLength.Statement (.pushPair q) :=
  ⟨of_decide_eq_true rfl, of_decide_eq_true rfl⟩
theorem EncodedLength.pushIX : EncodedLength.Statement .pushIX :=
  ⟨of_decide_eq_true rfl, of_decide_eq_true rfl⟩
theorem EncodedLength.pushIY : EncodedLength.Statement .pushIY :=
  ⟨of_decide_eq_true rfl, of_decide_eq_true rfl⟩
theorem EncodedLength.popPair (q : PairQQ) : EncodedLength.Statement (.popPair q) :=
  ⟨of_decide_eq_true rfl, of_decide_eq_true rfl⟩
theorem EncodedLength.popIX : EncodedLength.Statement .popIX :=
  ⟨of_decide_eq_true rfl, of_decide_eq_true rfl⟩
theorem EncodedLength.popIY : EncodedLength.Statement .popIY :=
  ⟨of_decide_eq_true rfl, of_decide_eq_true rfl⟩
theorem EncodedLength.exDEHL : EncodedLength.Statement .exDEHL :=
  ⟨of_decide_eq_true rfl, of_decide_eq_true rfl⟩
theorem EncodedLength.exAFAF : EncodedLength.Statement .exAFAF :=
  ⟨of_decide_eq_true rfl, of_decide_eq_true rfl⟩
theorem EncodedLength.exx : EncodedLength.Statement .exx :=
  ⟨of_decide_eq_true rfl, of_decide_eq_true rfl⟩
theorem EncodedLength.exAtSPHL : EncodedLength.Statement .exAtSPHL :=
  ⟨of_decide_eq_true rfl, of_decide_eq_true rfl⟩
theorem EncodedLength.exAtSPIX : EncodedLength.Statement .exAtSPIX :=
  ⟨of_decide_eq_true rfl, of_decide_eq_true rfl⟩
theorem EncodedLength.exAtSPIY : EncodedLength.Statement .exAtSPIY :=
  ⟨of_decide_eq_true rfl, of_decide_eq_true rfl⟩
theorem EncodedLength.ldi : EncodedLength.Statement .ldi :=
  ⟨of_decide_eq_true rfl, of_decide_eq_true rfl⟩
theorem EncodedLength.ldir : EncodedLength.Statement .ldir :=
  ⟨of_decide_eq_true rfl, of_decide_eq_true rfl⟩
theorem EncodedLength.ldd : EncodedLength.Statement .ldd :=
  ⟨of_decide_eq_true rfl, of_decide_eq_true rfl⟩
theorem EncodedLength.lddr : EncodedLength.Statement .lddr :=
  ⟨of_decide_eq_true rfl, of_decide_eq_true rfl⟩
theorem EncodedLength.cpi : EncodedLength.Statement .cpi :=
  ⟨of_decide_eq_true rfl, of_decide_eq_true rfl⟩
theorem EncodedLength.cpir : EncodedLength.Statement .cpir :=
  ⟨of_decide_eq_true rfl, of_decide_eq_true rfl⟩
theorem EncodedLength.cpd : EncodedLength.Statement .cpd :=
  ⟨of_decide_eq_true rfl, of_decide_eq_true rfl⟩
theorem EncodedLength.cpdr : EncodedLength.Statement .cpdr :=
  ⟨of_decide_eq_true rfl, of_decide_eq_true rfl⟩
theorem EncodedLength.addReg (r : Reg8) : EncodedLength.Statement (.addReg r) :=
  ⟨of_decide_eq_true rfl, of_decide_eq_true rfl⟩
theorem EncodedLength.addImm (n : Byte) : EncodedLength.Statement (.addImm n) :=
  ⟨of_decide_eq_true rfl, of_decide_eq_true rfl⟩
theorem EncodedLength.addAtHL : EncodedLength.Statement .addAtHL :=
  ⟨of_decide_eq_true rfl, of_decide_eq_true rfl⟩
theorem EncodedLength.addAtIX (d : Byte) : EncodedLength.Statement (.addAtIX d) :=
  ⟨of_decide_eq_true rfl, of_decide_eq_true rfl⟩
theorem EncodedLength.addAtIY (d : Byte) : EncodedLength.Statement (.addAtIY d) :=
  ⟨of_decide_eq_true rfl, of_decide_eq_true rfl⟩
theorem EncodedLength.adcReg (r : Reg8) : EncodedLength.Statement (.adcReg r) :=
  ⟨of_decide_eq_true rfl, of_decide_eq_true rfl⟩
theorem EncodedLength.adcImm (n : Byte) : EncodedLength.Statement (.adcImm n) :=
  ⟨of_decide_eq_true rfl, of_decide_eq_true rfl⟩
theorem EncodedLength.adcAtHL : EncodedLength.Statement .adcAtHL :=
  ⟨of_decide_eq_true rfl, of_decide_eq_true rfl⟩
theorem EncodedLength.adcAtIX (d : Byte) : EncodedLength.Statement (.adcAtIX d) :=
  ⟨of_decide_eq_true rfl, of_decide_eq_true rfl⟩
theorem EncodedLength.adcAtIY (d : Byte) : EncodedLength.Statement (.adcAtIY d) :=
  ⟨of_decide_eq_true rfl, of_decide_eq_true rfl⟩
theorem EncodedLength.subReg (r : Reg8) : EncodedLength.Statement (.subReg r) :=
  ⟨of_decide_eq_true rfl, of_decide_eq_true rfl⟩
theorem EncodedLength.subImm (n : Byte) : EncodedLength.Statement (.subImm n) :=
  ⟨of_decide_eq_true rfl, of_decide_eq_true rfl⟩
theorem EncodedLength.subAtHL : EncodedLength.Statement .subAtHL :=
  ⟨of_decide_eq_true rfl, of_decide_eq_true rfl⟩
theorem EncodedLength.subAtIX (d : Byte) : EncodedLength.Statement (.subAtIX d) :=
  ⟨of_decide_eq_true rfl, of_decide_eq_true rfl⟩
theorem EncodedLength.subAtIY (d : Byte) : EncodedLength.Statement (.subAtIY d) :=
  ⟨of_decide_eq_true rfl, of_decide_eq_true rfl⟩
theorem EncodedLength.sbcReg (r : Reg8) : EncodedLength.Statement (.sbcReg r) :=
  ⟨of_decide_eq_true rfl, of_decide_eq_true rfl⟩
theorem EncodedLength.sbcImm (n : Byte) : EncodedLength.Statement (.sbcImm n) :=
  ⟨of_decide_eq_true rfl, of_decide_eq_true rfl⟩
theorem EncodedLength.sbcAtHL : EncodedLength.Statement .sbcAtHL :=
  ⟨of_decide_eq_true rfl, of_decide_eq_true rfl⟩
theorem EncodedLength.sbcAtIX (d : Byte) : EncodedLength.Statement (.sbcAtIX d) :=
  ⟨of_decide_eq_true rfl, of_decide_eq_true rfl⟩
theorem EncodedLength.sbcAtIY (d : Byte) : EncodedLength.Statement (.sbcAtIY d) :=
  ⟨of_decide_eq_true rfl, of_decide_eq_true rfl⟩
theorem EncodedLength.andReg (r : Reg8) : EncodedLength.Statement (.andReg r) :=
  ⟨of_decide_eq_true rfl, of_decide_eq_true rfl⟩
theorem EncodedLength.andImm (n : Byte) : EncodedLength.Statement (.andImm n) :=
  ⟨of_decide_eq_true rfl, of_decide_eq_true rfl⟩
theorem EncodedLength.andAtHL : EncodedLength.Statement .andAtHL :=
  ⟨of_decide_eq_true rfl, of_decide_eq_true rfl⟩
theorem EncodedLength.andAtIX (d : Byte) : EncodedLength.Statement (.andAtIX d) :=
  ⟨of_decide_eq_true rfl, of_decide_eq_true rfl⟩
theorem EncodedLength.andAtIY (d : Byte) : EncodedLength.Statement (.andAtIY d) :=
  ⟨of_decide_eq_true rfl, of_decide_eq_true rfl⟩
theorem EncodedLength.orReg (r : Reg8) : EncodedLength.Statement (.orReg r) :=
  ⟨of_decide_eq_true rfl, of_decide_eq_true rfl⟩
theorem EncodedLength.orImm (n : Byte) : EncodedLength.Statement (.orImm n) :=
  ⟨of_decide_eq_true rfl, of_decide_eq_true rfl⟩
theorem EncodedLength.orAtHL : EncodedLength.Statement .orAtHL :=
  ⟨of_decide_eq_true rfl, of_decide_eq_true rfl⟩
theorem EncodedLength.orAtIX (d : Byte) : EncodedLength.Statement (.orAtIX d) :=
  ⟨of_decide_eq_true rfl, of_decide_eq_true rfl⟩
theorem EncodedLength.orAtIY (d : Byte) : EncodedLength.Statement (.orAtIY d) :=
  ⟨of_decide_eq_true rfl, of_decide_eq_true rfl⟩
theorem EncodedLength.xorReg (r : Reg8) : EncodedLength.Statement (.xorReg r) :=
  ⟨of_decide_eq_true rfl, of_decide_eq_true rfl⟩
theorem EncodedLength.xorImm (n : Byte) : EncodedLength.Statement (.xorImm n) :=
  ⟨of_decide_eq_true rfl, of_decide_eq_true rfl⟩
theorem EncodedLength.xorAtHL : EncodedLength.Statement .xorAtHL :=
  ⟨of_decide_eq_true rfl, of_decide_eq_true rfl⟩
theorem EncodedLength.xorAtIX (d : Byte) : EncodedLength.Statement (.xorAtIX d) :=
  ⟨of_decide_eq_true rfl, of_decide_eq_true rfl⟩
theorem EncodedLength.xorAtIY (d : Byte) : EncodedLength.Statement (.xorAtIY d) :=
  ⟨of_decide_eq_true rfl, of_decide_eq_true rfl⟩
theorem EncodedLength.cpReg (r : Reg8) : EncodedLength.Statement (.cpReg r) :=
  ⟨of_decide_eq_true rfl, of_decide_eq_true rfl⟩
theorem EncodedLength.cpImm (n : Byte) : EncodedLength.Statement (.cpImm n) :=
  ⟨of_decide_eq_true rfl, of_decide_eq_true rfl⟩
theorem EncodedLength.cpAtHL : EncodedLength.Statement .cpAtHL :=
  ⟨of_decide_eq_true rfl, of_decide_eq_true rfl⟩
theorem EncodedLength.cpAtIX (d : Byte) : EncodedLength.Statement (.cpAtIX d) :=
  ⟨of_decide_eq_true rfl, of_decide_eq_true rfl⟩
theorem EncodedLength.cpAtIY (d : Byte) : EncodedLength.Statement (.cpAtIY d) :=
  ⟨of_decide_eq_true rfl, of_decide_eq_true rfl⟩
theorem EncodedLength.incReg (r : Reg8) : EncodedLength.Statement (.incReg r) :=
  ⟨of_decide_eq_true rfl, of_decide_eq_true rfl⟩
theorem EncodedLength.incAtHL : EncodedLength.Statement .incAtHL :=
  ⟨of_decide_eq_true rfl, of_decide_eq_true rfl⟩
theorem EncodedLength.incAtIX (d : Byte) : EncodedLength.Statement (.incAtIX d) :=
  ⟨of_decide_eq_true rfl, of_decide_eq_true rfl⟩
theorem EncodedLength.incAtIY (d : Byte) : EncodedLength.Statement (.incAtIY d) :=
  ⟨of_decide_eq_true rfl, of_decide_eq_true rfl⟩
theorem EncodedLength.decReg (r : Reg8) : EncodedLength.Statement (.decReg r) :=
  ⟨of_decide_eq_true rfl, of_decide_eq_true rfl⟩
theorem EncodedLength.decAtHL : EncodedLength.Statement .decAtHL :=
  ⟨of_decide_eq_true rfl, of_decide_eq_true rfl⟩
theorem EncodedLength.decAtIX (d : Byte) : EncodedLength.Statement (.decAtIX d) :=
  ⟨of_decide_eq_true rfl, of_decide_eq_true rfl⟩
theorem EncodedLength.decAtIY (d : Byte) : EncodedLength.Statement (.decAtIY d) :=
  ⟨of_decide_eq_true rfl, of_decide_eq_true rfl⟩
theorem EncodedLength.daa : EncodedLength.Statement .daa :=
  ⟨of_decide_eq_true rfl, of_decide_eq_true rfl⟩
theorem EncodedLength.cpl : EncodedLength.Statement .cpl :=
  ⟨of_decide_eq_true rfl, of_decide_eq_true rfl⟩
theorem EncodedLength.neg : EncodedLength.Statement .neg :=
  ⟨of_decide_eq_true rfl, of_decide_eq_true rfl⟩
theorem EncodedLength.ccf : EncodedLength.Statement .ccf :=
  ⟨of_decide_eq_true rfl, of_decide_eq_true rfl⟩
theorem EncodedLength.scf : EncodedLength.Statement .scf :=
  ⟨of_decide_eq_true rfl, of_decide_eq_true rfl⟩
theorem EncodedLength.nop : EncodedLength.Statement .nop :=
  ⟨of_decide_eq_true rfl, of_decide_eq_true rfl⟩
theorem EncodedLength.halt : EncodedLength.Statement .halt :=
  ⟨of_decide_eq_true rfl, of_decide_eq_true rfl⟩
theorem EncodedLength.di : EncodedLength.Statement .di :=
  ⟨of_decide_eq_true rfl, of_decide_eq_true rfl⟩
theorem EncodedLength.ei : EncodedLength.Statement .ei :=
  ⟨of_decide_eq_true rfl, of_decide_eq_true rfl⟩
theorem EncodedLength.im0 : EncodedLength.Statement .im0 :=
  ⟨of_decide_eq_true rfl, of_decide_eq_true rfl⟩
theorem EncodedLength.im1 : EncodedLength.Statement .im1 :=
  ⟨of_decide_eq_true rfl, of_decide_eq_true rfl⟩
theorem EncodedLength.im2 : EncodedLength.Statement .im2 :=
  ⟨of_decide_eq_true rfl, of_decide_eq_true rfl⟩
theorem EncodedLength.addHLPair (p : PairDD) : EncodedLength.Statement (.addHLPair p) :=
  ⟨of_decide_eq_true rfl, of_decide_eq_true rfl⟩
theorem EncodedLength.adcHLPair (p : PairDD) : EncodedLength.Statement (.adcHLPair p) :=
  ⟨of_decide_eq_true rfl, of_decide_eq_true rfl⟩
theorem EncodedLength.sbcHLPair (p : PairDD) : EncodedLength.Statement (.sbcHLPair p) :=
  ⟨of_decide_eq_true rfl, of_decide_eq_true rfl⟩
theorem EncodedLength.addIXPair (p : PairPP) : EncodedLength.Statement (.addIXPair p) :=
  ⟨of_decide_eq_true rfl, of_decide_eq_true rfl⟩
theorem EncodedLength.addIYPair (p : PairRR) : EncodedLength.Statement (.addIYPair p) :=
  ⟨of_decide_eq_true rfl, of_decide_eq_true rfl⟩
theorem EncodedLength.incPair (p : PairDD) : EncodedLength.Statement (.incPair p) :=
  ⟨of_decide_eq_true rfl, of_decide_eq_true rfl⟩
theorem EncodedLength.incIX : EncodedLength.Statement .incIX :=
  ⟨of_decide_eq_true rfl, of_decide_eq_true rfl⟩
theorem EncodedLength.incIY : EncodedLength.Statement .incIY :=
  ⟨of_decide_eq_true rfl, of_decide_eq_true rfl⟩
theorem EncodedLength.decPair (p : PairDD) : EncodedLength.Statement (.decPair p) :=
  ⟨of_decide_eq_true rfl, of_decide_eq_true rfl⟩
theorem EncodedLength.decIX : EncodedLength.Statement .decIX :=
  ⟨of_decide_eq_true rfl, of_decide_eq_true rfl⟩
theorem EncodedLength.decIY : EncodedLength.Statement .decIY :=
  ⟨of_decide_eq_true rfl, of_decide_eq_true rfl⟩
theorem EncodedLength.rlca : EncodedLength.Statement .rlca :=
  ⟨of_decide_eq_true rfl, of_decide_eq_true rfl⟩
theorem EncodedLength.rla : EncodedLength.Statement .rla :=
  ⟨of_decide_eq_true rfl, of_decide_eq_true rfl⟩
theorem EncodedLength.rrca : EncodedLength.Statement .rrca :=
  ⟨of_decide_eq_true rfl, of_decide_eq_true rfl⟩
theorem EncodedLength.rra : EncodedLength.Statement .rra :=
  ⟨of_decide_eq_true rfl, of_decide_eq_true rfl⟩
theorem EncodedLength.rlcReg (r : Reg8) : EncodedLength.Statement (.rlcReg r) :=
  ⟨of_decide_eq_true rfl, of_decide_eq_true rfl⟩
theorem EncodedLength.rlcAtHL : EncodedLength.Statement .rlcAtHL :=
  ⟨of_decide_eq_true rfl, of_decide_eq_true rfl⟩
theorem EncodedLength.rlcAtIX (d : Byte) : EncodedLength.Statement (.rlcAtIX d) :=
  ⟨of_decide_eq_true rfl, of_decide_eq_true rfl⟩
theorem EncodedLength.rlcAtIY (d : Byte) : EncodedLength.Statement (.rlcAtIY d) :=
  ⟨of_decide_eq_true rfl, of_decide_eq_true rfl⟩
theorem EncodedLength.rlReg (r : Reg8) : EncodedLength.Statement (.rlReg r) :=
  ⟨of_decide_eq_true rfl, of_decide_eq_true rfl⟩
theorem EncodedLength.rlAtHL : EncodedLength.Statement .rlAtHL :=
  ⟨of_decide_eq_true rfl, of_decide_eq_true rfl⟩
theorem EncodedLength.rlAtIX (d : Byte) : EncodedLength.Statement (.rlAtIX d) :=
  ⟨of_decide_eq_true rfl, of_decide_eq_true rfl⟩
theorem EncodedLength.rlAtIY (d : Byte) : EncodedLength.Statement (.rlAtIY d) :=
  ⟨of_decide_eq_true rfl, of_decide_eq_true rfl⟩
theorem EncodedLength.rrcReg (r : Reg8) : EncodedLength.Statement (.rrcReg r) :=
  ⟨of_decide_eq_true rfl, of_decide_eq_true rfl⟩
theorem EncodedLength.rrcAtHL : EncodedLength.Statement .rrcAtHL :=
  ⟨of_decide_eq_true rfl, of_decide_eq_true rfl⟩
theorem EncodedLength.rrcAtIX (d : Byte) : EncodedLength.Statement (.rrcAtIX d) :=
  ⟨of_decide_eq_true rfl, of_decide_eq_true rfl⟩
theorem EncodedLength.rrcAtIY (d : Byte) : EncodedLength.Statement (.rrcAtIY d) :=
  ⟨of_decide_eq_true rfl, of_decide_eq_true rfl⟩
theorem EncodedLength.rrReg (r : Reg8) : EncodedLength.Statement (.rrReg r) :=
  ⟨of_decide_eq_true rfl, of_decide_eq_true rfl⟩
theorem EncodedLength.rrAtHL : EncodedLength.Statement .rrAtHL :=
  ⟨of_decide_eq_true rfl, of_decide_eq_true rfl⟩
theorem EncodedLength.rrAtIX (d : Byte) : EncodedLength.Statement (.rrAtIX d) :=
  ⟨of_decide_eq_true rfl, of_decide_eq_true rfl⟩
theorem EncodedLength.rrAtIY (d : Byte) : EncodedLength.Statement (.rrAtIY d) :=
  ⟨of_decide_eq_true rfl, of_decide_eq_true rfl⟩
theorem EncodedLength.slaReg (r : Reg8) : EncodedLength.Statement (.slaReg r) :=
  ⟨of_decide_eq_true rfl, of_decide_eq_true rfl⟩
theorem EncodedLength.slaAtHL : EncodedLength.Statement .slaAtHL :=
  ⟨of_decide_eq_true rfl, of_decide_eq_true rfl⟩
theorem EncodedLength.slaAtIX (d : Byte) : EncodedLength.Statement (.slaAtIX d) :=
  ⟨of_decide_eq_true rfl, of_decide_eq_true rfl⟩
theorem EncodedLength.slaAtIY (d : Byte) : EncodedLength.Statement (.slaAtIY d) :=
  ⟨of_decide_eq_true rfl, of_decide_eq_true rfl⟩
theorem EncodedLength.sraReg (r : Reg8) : EncodedLength.Statement (.sraReg r) :=
  ⟨of_decide_eq_true rfl, of_decide_eq_true rfl⟩
theorem EncodedLength.sraAtHL : EncodedLength.Statement .sraAtHL :=
  ⟨of_decide_eq_true rfl, of_decide_eq_true rfl⟩
theorem EncodedLength.sraAtIX (d : Byte) : EncodedLength.Statement (.sraAtIX d) :=
  ⟨of_decide_eq_true rfl, of_decide_eq_true rfl⟩
theorem EncodedLength.sraAtIY (d : Byte) : EncodedLength.Statement (.sraAtIY d) :=
  ⟨of_decide_eq_true rfl, of_decide_eq_true rfl⟩
theorem EncodedLength.srlReg (r : Reg8) : EncodedLength.Statement (.srlReg r) :=
  ⟨of_decide_eq_true rfl, of_decide_eq_true rfl⟩
theorem EncodedLength.srlAtHL : EncodedLength.Statement .srlAtHL :=
  ⟨of_decide_eq_true rfl, of_decide_eq_true rfl⟩
theorem EncodedLength.srlAtIX (d : Byte) : EncodedLength.Statement (.srlAtIX d) :=
  ⟨of_decide_eq_true rfl, of_decide_eq_true rfl⟩
theorem EncodedLength.srlAtIY (d : Byte) : EncodedLength.Statement (.srlAtIY d) :=
  ⟨of_decide_eq_true rfl, of_decide_eq_true rfl⟩
theorem EncodedLength.rld : EncodedLength.Statement .rld :=
  ⟨of_decide_eq_true rfl, of_decide_eq_true rfl⟩
theorem EncodedLength.rrd : EncodedLength.Statement .rrd :=
  ⟨of_decide_eq_true rfl, of_decide_eq_true rfl⟩
theorem EncodedLength.bitReg (b : Nat) (r : Reg8) : EncodedLength.Statement (.bitReg b r) :=
  ⟨of_decide_eq_true rfl, of_decide_eq_true rfl⟩
theorem EncodedLength.bitAtHL (b : Nat) : EncodedLength.Statement (.bitAtHL b) :=
  ⟨of_decide_eq_true rfl, of_decide_eq_true rfl⟩
theorem EncodedLength.bitAtIX (b : Nat) (d : Byte) : EncodedLength.Statement (.bitAtIX b d) :=
  ⟨of_decide_eq_true rfl, of_decide_eq_true rfl⟩
theorem EncodedLength.bitAtIY (b : Nat) (d : Byte) : EncodedLength.Statement (.bitAtIY b d) :=
  ⟨of_decide_eq_true rfl, of_decide_eq_true rfl⟩
theorem EncodedLength.setReg (b : Nat) (r : Reg8) : EncodedLength.Statement (.setReg b r) :=
  ⟨of_decide_eq_true rfl, of_decide_eq_true rfl⟩
theorem EncodedLength.setAtHL (b : Nat) : EncodedLength.Statement (.setAtHL b) :=
  ⟨of_decide_eq_true rfl, of_decide_eq_true rfl⟩
theorem EncodedLength.setAtIX (b : Nat) (d : Byte) : EncodedLength.Statement (.setAtIX b d) :=
  ⟨of_decide_eq_true rfl, of_decide_eq_true rfl⟩
theorem EncodedLength.setAtIY (b : Nat) (d : Byte) : EncodedLength.Statement (.setAtIY b d) :=
  ⟨of_decide_eq_true rfl, of_decide_eq_true rfl⟩
theorem EncodedLength.resReg (b : Nat) (r : Reg8) : EncodedLength.Statement (.resReg b r) :=
  ⟨of_decide_eq_true rfl, of_decide_eq_true rfl⟩
theorem EncodedLength.resAtHL (b : Nat) : EncodedLength.Statement (.resAtHL b) :=
  ⟨of_decide_eq_true rfl, of_decide_eq_true rfl⟩
theorem EncodedLength.resAtIX (b : Nat) (d : Byte) : EncodedLength.Statement (.resAtIX b d) :=
  ⟨of_decide_eq_true rfl, of_decide_eq_true rfl⟩
theorem EncodedLength.resAtIY (b : Nat) (d : Byte) : EncodedLength.Statement (.resAtIY b d) :=
  ⟨of_decide_eq_true rfl, of_decide_eq_true rfl⟩
theorem EncodedLength.jpImm (nn : Word) : EncodedLength.Statement (.jpImm nn) :=
  ⟨of_decide_eq_true rfl, of_decide_eq_true rfl⟩
theorem EncodedLength.jpCond (cc : Cond) (nn : Word) : EncodedLength.Statement (.jpCond cc nn) :=
  ⟨of_decide_eq_true rfl, of_decide_eq_true rfl⟩
theorem EncodedLength.jr (e : Byte) : EncodedLength.Statement (.jr e) :=
  ⟨of_decide_eq_true rfl, of_decide_eq_true rfl⟩
theorem EncodedLength.jrC (e : Byte) : EncodedLength.Statement (.jrC e) :=
  ⟨of_decide_eq_true rfl, of_decide_eq_true rfl⟩
theorem EncodedLength.jrNC (e : Byte) : EncodedLength.Statement (.jrNC e) :=
  ⟨of_decide_eq_true rfl, of_decide_eq_true rfl⟩
theorem EncodedLength.jrZ (e : Byte) : EncodedLength.Statement (.jrZ e) :=
  ⟨of_decide_eq_true rfl, of_decide_eq_true rfl⟩
theorem EncodedLength.jrNZ (e : Byte) : EncodedLength.Statement (.jrNZ e) :=
  ⟨of_decide_eq_true rfl, of_decide_eq_true rfl⟩
theorem EncodedLength.jpHL : EncodedLength.Statement .jpHL :=
  ⟨of_decide_eq_true rfl, of_decide_eq_true rfl⟩
theorem EncodedLength.jpIX : EncodedLength.Statement .jpIX :=
  ⟨of_decide_eq_true rfl, of_decide_eq_true rfl⟩
theorem EncodedLength.jpIY : EncodedLength.Statement .jpIY :=
  ⟨of_decide_eq_true rfl, of_decide_eq_true rfl⟩
theorem EncodedLength.djnz (e : Byte) : EncodedLength.Statement (.djnz e) :=
  ⟨of_decide_eq_true rfl, of_decide_eq_true rfl⟩
theorem EncodedLength.callImm (nn : Word) : EncodedLength.Statement (.callImm nn) :=
  ⟨of_decide_eq_true rfl, of_decide_eq_true rfl⟩
theorem EncodedLength.callCond (cc : Cond) (nn : Word) : EncodedLength.Statement (.callCond cc nn) :=
  ⟨of_decide_eq_true rfl, of_decide_eq_true rfl⟩
theorem EncodedLength.ret : EncodedLength.Statement .ret :=
  ⟨of_decide_eq_true rfl, of_decide_eq_true rfl⟩
theorem EncodedLength.retCond (cc : Cond) : EncodedLength.Statement (.retCond cc) :=
  ⟨of_decide_eq_true rfl, of_decide_eq_true rfl⟩
theorem EncodedLength.reti : EncodedLength.Statement .reti :=
  ⟨of_decide_eq_true rfl, of_decide_eq_true rfl⟩
theorem EncodedLength.retn : EncodedLength.Statement .retn :=
  ⟨of_decide_eq_true rfl, of_decide_eq_true rfl⟩
theorem EncodedLength.rst (p : Byte) : EncodedLength.Statement (.rst p) :=
  ⟨of_decide_eq_true rfl, of_decide_eq_true rfl⟩
theorem EncodedLength.inAImm (n : Byte) : EncodedLength.Statement (.inAImm n) :=
  ⟨of_decide_eq_true rfl, of_decide_eq_true rfl⟩
theorem EncodedLength.inRegC (r : Reg8) : EncodedLength.Statement (.inRegC r) :=
  ⟨of_decide_eq_true rfl, of_decide_eq_true rfl⟩
theorem EncodedLength.ini : EncodedLength.Statement .ini :=
  ⟨of_decide_eq_true rfl, of_decide_eq_true rfl⟩
theorem EncodedLength.inir : EncodedLength.Statement .inir :=
  ⟨of_decide_eq_true rfl, of_decide_eq_true rfl⟩
theorem EncodedLength.ind : EncodedLength.Statement .ind :=
  ⟨of_decide_eq_true rfl, of_decide_eq_true rfl⟩
theorem EncodedLength.indr : EncodedLength.Statement .indr :=
  ⟨of_decide_eq_true rfl, of_decide_eq_true rfl⟩
theorem EncodedLength.outImmA (n : Byte) : EncodedLength.Statement (.outImmA n) :=
  ⟨of_decide_eq_true rfl, of_decide_eq_true rfl⟩
theorem EncodedLength.outCReg (r : Reg8) : EncodedLength.Statement (.outCReg r) :=
  ⟨of_decide_eq_true rfl, of_decide_eq_true rfl⟩
theorem EncodedLength.outi : EncodedLength.Statement .outi :=
  ⟨of_decide_eq_true rfl, of_decide_eq_true rfl⟩
theorem EncodedLength.otir : EncodedLength.Statement .otir :=
  ⟨of_decide_eq_true rfl, of_decide_eq_true rfl⟩
theorem EncodedLength.outd : EncodedLength.Statement .outd :=
  ⟨of_decide_eq_true rfl, of_decide_eq_true rfl⟩
theorem EncodedLength.otdr : EncodedLength.Statement .otdr :=
  ⟨of_decide_eq_true rfl, of_decide_eq_true rfl⟩

end Sys2Proof.Laws
end

