-- ==== Sys2Proof/Laws/Shapes.lean ====
section
/-!
SUPPORT. Frames of the shared operations of the instruction families, from the frames of Laws/Frame.lean.
-/

namespace Sys2Proof.Machine

/-! ## Operand shapes -/

section
variable (s : State) {ps : List Piece}

theorem State.frame_useAt {op : Byte → State → State} (h : ∀ v t, changesOnly ps t (op v t)) (a : Word) :
    changesOnly (.trace :: .draws :: ps) s (s.useAt a op) :=
  ((s.frame_read8 a).mono (by simp)).andThen (h _ _) (by intro p hp; simp [hp])

theorem State.frame_updateReg {op : Byte → State → Byte × State} (h : ∀ v t, changesOnly ps t (op v t).2)
    (q : Reg8) : changesOnly (.reg q :: ps) s (s.updateReg q op) :=
  ((h _ s).mono (by intro p hp; simp [hp])).andThen (State.frame_setReg8 _ _ _) (by simp)

theorem State.frame_updateAt {op : Byte → State → Byte × State} (h : ∀ v t, changesOnly ps t (op v t).2)
    (a : Word) : changesOnly (.byte a :: .trace :: .draws :: ps) s (s.updateAt a op) :=
  (((s.frame_read8 a).mono (by simp)).andThen (h _ _) (by intro p hp; simp [hp])).andThen
    (State.frame_write8 _ _ _) (by simp)

theorem State.frame_load16At {put : Word → State → State} (h : ∀ w t, changesOnly ps t (put w t)) (a : Word) :
    changesOnly (.trace :: .draws :: ps) s (s.load16At a put) :=
  ((s.frame_read16 a).mono (by simp)).andThen (h _ _) (by intro p hp; simp [hp])

theorem State.frame_popInto {put : Word → State → State} (h : ∀ w t, changesOnly ps t (put w t)) :
    changesOnly (.sp :: .trace :: .draws :: ps) s (s.popInto put) :=
  ((s.frame_pop16).mono (by simp)).andThen (h _ _) (by intro p hp; simp [hp])

theorem State.frame_exchangeTop {put : Word → State → State} (h : ∀ w t, changesOnly ps t (put w t)) (old : Word) :
    changesOnly (.byte (s.sp + 1) :: .byte s.sp :: .trace :: .draws :: ps) s (s.exchangeTop old put) :=
  ((((s.frame_read16 s.sp).mono (by simp)).andThen (State.frame_write8 _ _ _) (by simp)).andThen
    (State.frame_write8 _ _ _) (by simp)).andThen (h _ _) (by intro p hp; simp [hp])

theorem State.frame_loadRegAt (q : Reg8) (a : Word) : changesOnly [.trace, .draws, .reg q] s (s.loadRegAt q a) :=
  s.frame_useAt (fun v t => t.frame_setReg8 q v) a

/-! ## Loads of A from I and R -/

theorem State.frame_loadAFromSpecial (v : Byte) : changesOnly [.reg .a, .f, .draws] s (s.loadAFromSpecial v) := by
  simp only [State.loadAFromSpecial]
  split
  · exact (((s.frame_anyBit).mono (by simp)).andThen (State.frame_setA _ _) (by simp)).andThen
      (State.frame_writeFlags _ _) (by simp)
  · exact ((s.frame_setA _).mono (by simp)).andThen (State.frame_writeFlags _ _) (by simp)

/-! ## Arithmetic and logic on A, INC, DEC -/

theorem State.frame_addToA (c : Bool) (v : Byte) : changesOnly [.reg .a, .f, .draws] s (s.addToA c v) :=
  ((s.frame_setA _).mono (by simp)).andThen (State.frame_writeFlags _ _) (by simp)

theorem State.frame_subFromA (c : Bool) (v : Byte) : changesOnly [.reg .a, .f, .draws] s (s.subFromA c v) :=
  ((s.frame_setA _).mono (by simp)).andThen (State.frame_writeFlags _ _) (by simp)

theorem State.frame_logicToA (v : Byte) (h : Bool) : changesOnly [.reg .a, .f, .draws] s (s.logicToA v h) :=
  ((s.frame_setA _).mono (by simp)).andThen (State.frame_writeFlags _ _) (by simp)

theorem State.frame_opAdd (v : Byte) : changesOnly [.reg .a, .f, .draws] s (s.opAdd v) := s.frame_addToA _ v
theorem State.frame_opAdc (v : Byte) : changesOnly [.reg .a, .f, .draws] s (s.opAdc v) := s.frame_addToA _ v
theorem State.frame_opSub (v : Byte) : changesOnly [.reg .a, .f, .draws] s (s.opSub v) := s.frame_subFromA _ v
theorem State.frame_opSbc (v : Byte) : changesOnly [.reg .a, .f, .draws] s (s.opSbc v) := s.frame_subFromA _ v
theorem State.frame_opAnd (v : Byte) : changesOnly [.reg .a, .f, .draws] s (s.opAnd v) := s.frame_logicToA _ _
theorem State.frame_opOr (v : Byte) : changesOnly [.reg .a, .f, .draws] s (s.opOr v) := s.frame_logicToA _ _
theorem State.frame_opXor (v : Byte) : changesOnly [.reg .a, .f, .draws] s (s.opXor v) := s.frame_logicToA _ _
theorem State.frame_opCp (v : Byte) : changesOnly [.f, .draws] s (s.opCp v) := s.frame_writeFlags _

theorem frame_incByte (v : Byte) : changesOnly [.f, .draws] s (incByte v s).2 := s.frame_writeFlags _
theorem frame_decByte (v : Byte) : changesOnly [.f, .draws] s (decByte v s).2 := s.frame_writeFlags _

/-! ## Carry, 16-bit flags -/

theorem State.frame_writeCarry (c h : Bool) : changesOnly [.f, .draws] s (s.writeCarry c h) := s.frame_writeFlags _

theorem State.frame_add16Flags (x : Arith 16) : changesOnly [.f, .draws] s (s.add16Flags x) :=
  ((s.frame_anyBit).mono (by simp)).andThen (State.frame_writeFlags _ _) (by simp)

theorem State.frame_carry16Flags (x : Arith 16) (n : Bool) : changesOnly [.f, .draws] s (s.carry16Flags x n) :=
  ((s.frame_anyBit).mono (by simp)).andThen (State.frame_writeFlags _ _) (by simp)

/-! ## Rotates, shifts, bits -/

theorem State.frame_rotateA (res : Byte × Bool) : changesOnly [.reg .a, .f, .draws] s (s.rotateA res) :=
  ((s.frame_setA _).mono (by simp)).andThen (State.frame_writeFlags _ _) (by simp)

theorem State.frame_setAWithByteFlags (v : Byte) : changesOnly [.reg .a, .f, .draws] s (s.setAWithByteFlags v) :=
  ((s.frame_setA _).mono (by simp)).andThen (State.frame_writeFlags _ _) (by simp)

theorem frame_rotateByte (move : State → Byte → Byte × Bool) (v : Byte) :
    changesOnly [.f, .draws] s (rotateByte move v s).2 := s.frame_writeFlags _

theorem State.frame_testBit (b : Nat) (v : Byte) : changesOnly [.f, .draws] s (s.testBit b v) :=
  (((s.frame_anyBit).mono (by simp)).andThen (State.frame_anyBit _) (by simp)).andThen
    (State.frame_writeFlags _ _) (by simp)

theorem frame_setBitByte (b : Nat) (v : Byte) : changesOnly [] s (setBitByte b v s).2 := changesOnly.refl _ s
theorem frame_resBitByte (b : Nat) (v : Byte) : changesOnly [] s (resBitByte b v s).2 := changesOnly.refl _ s

/-! ## Block instructions -/

theorem State.frame_blockLoad (delta : Word) :
    changesOnly [.byte s.de, .reg .b, .reg .c, .reg .d, .reg .e, .reg .h, .reg .l, .f, .trace, .draws] s
      (s.blockLoad delta) :=
  ((((((s.frame_read8 s.hl).mono (by simp)).andThen (State.frame_write8 _ _ _) (by simp)).andThen
    (State.frame_setDE _ _) (by simp)).andThen (State.frame_setHL _ _) (by simp)).andThen
    (State.frame_setBC _ _) (by simp)).andThen (State.frame_writeFlags _ _) (by simp)

theorem State.frame_blockCompare (delta : Word) :
    changesOnly [.reg .b, .reg .c, .reg .h, .reg .l, .f, .trace, .draws] s (s.blockCompare delta) :=
  ((((s.frame_read8 s.hl).mono (by simp)).andThen (State.frame_setHL _ _) (by simp)).andThen
    (State.frame_setBC _ _) (by simp)).andThen (State.frame_writeFlags _ _) (by simp)

theorem State.frame_blockIoFlags : changesOnly [.f, .draws] s s.blockIoFlags :=
  ((((s.frame_anyBit).mono (by simp)).andThen (State.frame_anyBit _) (by simp)).andThen
    (State.frame_anyBit _) (by simp)).andThen (State.frame_writeFlags _ _) (by simp)

theorem State.frame_blockIn (delta : Word) :
    changesOnly [.byte s.hl, .reg .b, .reg .h, .reg .l, .f, .trace, .draws] s (s.blockIn delta) :=
  (((((s.frame_portIn s.bc).mono (by simp)).andThen (State.frame_write8 _ _ _) (by simp)).andThen
    (State.frame_setB _ _) (by simp)).andThen (State.frame_setHL _ _) (by simp)).andThen
    (State.frame_blockIoFlags _) (by simp)

theorem State.frame_blockOut (delta : Word) :
    changesOnly [.reg .b, .reg .h, .reg .l, .f, .trace, .draws] s (s.blockOut delta) :=
  (((((s.frame_read8 s.hl).mono (by simp)).andThen (State.frame_setB _ _) (by simp)).andThen
    (State.frame_portOut _ _ _) (by simp)).andThen (State.frame_setHL _ _) (by simp)).andThen
    (State.frame_blockIoFlags _) (by simp)

/-! ## Fetching -/

theorem State.frame_fetchBytes (n : Nat) (a : Word) : changesOnly [.trace, .draws] s (s.fetchBytes n a).2 := by
  induction n generalizing a s with
  | zero => exact changesOnly.refl _ s
  | succ n ih => exact (s.frame_read8 a).trans (ih _ _)

theorem State.frame_fetch : changesOnly [.r, .trace, .draws] s s.fetch.2 := by
  simp only [State.fetch]
  split
  · exact ((((s.frame_read8 _).mono (by simp)).andThen (State.frame_read8 _ _) (by simp)).andThen
      (State.frame_fetchBytes _ _ _) (by simp)).andThen (State.frame_countFetches _ _) (by simp)
  · exact (((s.frame_read8 _).mono (by simp)).andThen (State.frame_fetchBytes _ _ _) (by simp)).andThen
      (State.frame_countFetches _ _) (by simp)

end

end Sys2Proof.Machine
end

