-- ==== Sys2Proof/Tests/Slice0.lean ====
section
/-!
SUPPORT. The model's own tests: ill-formed terms refused, a word of every constructor decoded, single steps with the
values of 95_test_vectors.md (V<n>.<m>, X<n>), and states that meet the hypotheses of the statements.
-/

namespace Sys2Proof.Tests

open Sys2Proof.Machine

-- One thread: the tests are many and small, and each thread reserves its own stack.
set_option Elab.async false

/-! ## WellFormed refuses ill-formed terms (R97, R98 of 30_encoding.md) -/

theorem test_wellFormed_bitReg : (Instr.bitReg 8 .a).wellFormed = false := by decide
theorem test_wellFormed_bitAtHL : (Instr.bitAtHL 8).wellFormed = false := by decide
theorem test_wellFormed_bitAtIX : (Instr.bitAtIX 8 0).wellFormed = false := by decide
theorem test_wellFormed_bitAtIY : (Instr.bitAtIY 9 0).wellFormed = false := by decide
theorem test_wellFormed_setReg : (Instr.setReg 8 .b).wellFormed = false := by decide
theorem test_wellFormed_setAtHL : (Instr.setAtHL 10).wellFormed = false := by decide
theorem test_wellFormed_setAtIX : (Instr.setAtIX 8 1).wellFormed = false := by decide
theorem test_wellFormed_setAtIY : (Instr.setAtIY 8 1).wellFormed = false := by decide
theorem test_wellFormed_resReg : (Instr.resReg 8 .c).wellFormed = false := by decide
theorem test_wellFormed_resAtHL : (Instr.resAtHL 16).wellFormed = false := by decide
theorem test_wellFormed_resAtIX : (Instr.resAtIX 8 2).wellFormed = false := by decide
theorem test_wellFormed_resAtIY : (Instr.resAtIY 8 2).wellFormed = false := by decide
theorem test_wellFormed_rst_between : (Instr.rst 0x01).wellFormed = false := by decide
theorem test_wellFormed_rst_above : (Instr.rst 0x40).wellFormed = false := by decide
theorem test_wellFormed_highest : (Instr.bitReg 7 .a).wellFormed = true ∧ (Instr.rst 0x38).wellFormed = true := by decide

/-! ## Decoding: one word of every constructor, from the encoding columns of 40_load8.md to 49_io.md -/

/-- The decoder reads an instruction from bytes and takes all of them. -/
abbrev reads (bytes : List Byte) (i : Instr) : Prop := decode bytes = .ok i []

theorem test_decode_load8_1 :
    reads [0b01111101] (.ldRegReg .a .l) ∧
    reads [0b00001110, 0b00111100] (.ldRegImm .c 0x3C) ∧
    reads [0b01010110] (.ldRegAtHL .d) ∧
    reads [0b11011101, 0b01011110, 0b10101000] (.ldRegAtIX .e 0xA8) ∧
    reads [0b11111101, 0b01100110, 0b10110101] (.ldRegAtIY .h 0xB5) ∧
    reads [0b01110101] (.ldAtHLReg .l) ∧
    reads [0b11011101, 0b01110000, 0b11001111] (.ldAtIXReg 0xCF .b) ∧
    reads [0b11111101, 0b01110111, 0b11011100] (.ldAtIYReg 0xDC .a) ∧
    reads [0b00110110, 0b01101101] (.ldAtHLImm 0x6D) ∧
    reads [0b11011101, 0b00110110, 0b11110110, 0b01110100] (.ldAtIXImm 0xF6 0x74) ∧
    reads [0b11111101, 0b00110110, 0b00000011, 0b01111011] (.ldAtIYImm 0x03 0x7B) ∧
    reads [0b00001010] .ldAAtBC ∧
    reads [0b00011010] .ldAAtDE ∧
    reads [0b00111010, 0b01101000, 0b11010011] (.ldAAtNN 0xD368) := by
  decide

theorem test_decode_load8_2 :
    reads [0b00000010] .ldAtBCA ∧
    reads [0b00010010] .ldAtDEA ∧
    reads [0b00110010, 0b01110001, 0b11100010] (.ldAtNNA 0xE271) ∧
    reads [0b11101101, 0b01010111] .ldAI ∧
    reads [0b11101101, 0b01011111] .ldAR ∧
    reads [0b11101101, 0b01000111] .ldIA ∧
    reads [0b11101101, 0b01001111] .ldRA := by
  decide

theorem test_decode_load16_1 :
    reads [0b00010001, 0b10000000, 0b11111011] (.ldPairImm .de 0xFB80) ∧
    reads [0b11011101, 0b00100001, 0b10000011, 0b00000000] (.ldIXImm 0x0083) ∧
    reads [0b11111101, 0b00100001, 0b10000110, 0b00000101] (.ldIYImm 0x0586) ∧
    reads [0b00101010, 0b10001001, 0b00001010] (.ldHLAtNN 0x0A89) ∧
    reads [0b11101101, 0b01011011, 0b10001100, 0b00001111] (.ldPairAtNN .de 0x0F8C) ∧
    reads [0b11011101, 0b00101010, 0b10001111, 0b00010100] (.ldIXAtNN 0x148F) ∧
    reads [0b11111101, 0b00101010, 0b10010010, 0b00011001] (.ldIYAtNN 0x1992) ∧
    reads [0b00100010, 0b10010101, 0b00011110] (.ldAtNNHL 0x1E95) ∧
    reads [0b11101101, 0b01010011, 0b10011000, 0b00100011] (.ldAtNNPair 0x2398 .de) ∧
    reads [0b11011101, 0b00100010, 0b10011011, 0b00101000] (.ldAtNNIX 0x289B) ∧
    reads [0b11111101, 0b00100010, 0b10011110, 0b00101101] (.ldAtNNIY 0x2D9E) ∧
    reads [0b11111001] .ldSPHL ∧
    reads [0b11011101, 0b11111001] .ldSPIX ∧
    reads [0b11111101, 0b11111001] .ldSPIY := by
  decide

theorem test_decode_load16_2 :
    reads [0b11110101] (.pushPair .af) ∧
    reads [0b11011101, 0b11100101] .pushIX ∧
    reads [0b11111101, 0b11100101] .pushIY ∧
    reads [0b11100001] (.popPair .hl) ∧
    reads [0b11011101, 0b11100001] .popIX ∧
    reads [0b11111101, 0b11100001] .popIY := by
  decide

theorem test_decode_exchange :
    reads [0b11101011] .exDEHL ∧
    reads [0b00001000] .exAFAF ∧
    reads [0b11011001] .exx ∧
    reads [0b11100011] .exAtSPHL ∧
    reads [0b11011101, 0b11100011] .exAtSPIX ∧
    reads [0b11111101, 0b11100011] .exAtSPIY ∧
    reads [0b11101101, 0b10100000] .ldi ∧
    reads [0b11101101, 0b10110000] .ldir ∧
    reads [0b11101101, 0b10101000] .ldd ∧
    reads [0b11101101, 0b10111000] .lddr ∧
    reads [0b11101101, 0b10100001] .cpi ∧
    reads [0b11101101, 0b10110001] .cpir ∧
    reads [0b11101101, 0b10101001] .cpd ∧
    reads [0b11101101, 0b10111001] .cpdr := by
  decide

theorem test_decode_alu8_1 :
    reads [0b10000000] (.addReg .b) ∧
    reads [0b11000110, 0b10111101] (.addImm 0xBD) ∧
    reads [0b10000110] .addAtHL ∧
    reads [0b11011101, 0b10000110, 0b01110011] (.addAtIX 0x73) ∧
    reads [0b11111101, 0b10000110, 0b10000000] (.addAtIY 0x80) ∧
    reads [0b10001100] (.adcReg .h) ∧
    reads [0b11001110, 0b11100000] (.adcImm 0xE0) ∧
    reads [0b10001110] .adcAtHL ∧
    reads [0b11011101, 0b10001110, 0b10110100] (.adcAtIX 0xB4) ∧
    reads [0b11111101, 0b10001110, 0b11000001] (.adcAtIY 0xC1) ∧
    reads [0b10010010] (.subReg .d) ∧
    reads [0b11010110, 0b00000011] (.subImm 0x03) ∧
    reads [0b10010110] .subAtHL ∧
    reads [0b11011101, 0b10010110, 0b11110101] (.subAtIX 0xF5) := by
  decide

theorem test_decode_alu8_2 :
    reads [0b11111101, 0b10010110, 0b00000010] (.subAtIY 0x02) ∧
    reads [0b10011111] (.sbcReg .a) ∧
    reads [0b11011110, 0b00100110] (.sbcImm 0x26) ∧
    reads [0b10011110] .sbcAtHL ∧
    reads [0b11011101, 0b10011110, 0b00110110] (.sbcAtIX 0x36) ∧
    reads [0b11111101, 0b10011110, 0b01000011] (.sbcAtIY 0x43) ∧
    reads [0b10100101] (.andReg .l) ∧
    reads [0b11100110, 0b01001001] (.andImm 0x49) ∧
    reads [0b10100110] .andAtHL ∧
    reads [0b11011101, 0b10100110, 0b01110111] (.andAtIX 0x77) ∧
    reads [0b11111101, 0b10100110, 0b10000100] (.andAtIY 0x84) ∧
    reads [0b10110011] (.orReg .e) ∧
    reads [0b11110110, 0b01101100] (.orImm 0x6C) ∧
    reads [0b10110110] .orAtHL := by
  decide

theorem test_decode_alu8_3 :
    reads [0b11011101, 0b10110110, 0b10111000] (.orAtIX 0xB8) ∧
    reads [0b11111101, 0b10110110, 0b11000101] (.orAtIY 0xC5) ∧
    reads [0b10101001] (.xorReg .c) ∧
    reads [0b11101110, 0b10001111] (.xorImm 0x8F) ∧
    reads [0b10101110] .xorAtHL ∧
    reads [0b11011101, 0b10101110, 0b11111001] (.xorAtIX 0xF9) ∧
    reads [0b11111101, 0b10101110, 0b00000110] (.xorAtIY 0x06) ∧
    reads [0b10111000] (.cpReg .b) ∧
    reads [0b11111110, 0b10110010] (.cpImm 0xB2) ∧
    reads [0b10111110] .cpAtHL ∧
    reads [0b11011101, 0b10111110, 0b00111010] (.cpAtIX 0x3A) ∧
    reads [0b11111101, 0b10111110, 0b01000111] (.cpAtIY 0x47) ∧
    reads [0b00100100] (.incReg .h) ∧
    reads [0b00110100] .incAtHL := by
  decide

theorem test_decode_alu8_4 :
    reads [0b11011101, 0b00110100, 0b01101110] (.incAtIX 0x6E) ∧
    reads [0b11111101, 0b00110100, 0b01111011] (.incAtIY 0x7B) ∧
    reads [0b00001101] (.decReg .c) ∧
    reads [0b00110101] .decAtHL ∧
    reads [0b11011101, 0b00110101, 0b10100010] (.decAtIX 0xA2) ∧
    reads [0b11111101, 0b00110101, 0b10101111] (.decAtIY 0xAF) := by
  decide

theorem test_decode_general :
    reads [0b00100111] .daa ∧
    reads [0b00101111] .cpl ∧
    reads [0b11101101, 0b01000100] .neg ∧
    reads [0b00111111] .ccf ∧
    reads [0b00110111] .scf ∧
    reads [0b00000000] .nop ∧
    reads [0b01110110] .halt ∧
    reads [0b11110011] .di ∧
    reads [0b11111011] .ei ∧
    reads [0b11101101, 0b01000110] .im0 ∧
    reads [0b11101101, 0b01010110] .im1 ∧
    reads [0b11101101, 0b01011110] .im2 := by
  decide

theorem test_decode_arith16 :
    reads [0b00111001] (.addHLPair .sp) ∧
    reads [0b11101101, 0b01001010] (.adcHLPair .bc) ∧
    reads [0b11101101, 0b01010010] (.sbcHLPair .de) ∧
    reads [0b11011101, 0b00101001] (.addIXPair .ix) ∧
    reads [0b11111101, 0b00111001] (.addIYPair .sp) ∧
    reads [0b00000011] (.incPair .bc) ∧
    reads [0b11011101, 0b00100011] .incIX ∧
    reads [0b11111101, 0b00100011] .incIY ∧
    reads [0b00111011] (.decPair .sp) ∧
    reads [0b11011101, 0b00101011] .decIX ∧
    reads [0b11111101, 0b00101011] .decIY := by
  decide

theorem test_decode_rotate_1 :
    reads [0b00000111] .rlca ∧
    reads [0b00010111] .rla ∧
    reads [0b00001111] .rrca ∧
    reads [0b00011111] .rra ∧
    reads [0b11001011, 0b00000100] (.rlcReg .h) ∧
    reads [0b11001011, 0b00000110] .rlcAtHL ∧
    reads [0b11011101, 0b11001011, 0b00110101, 0b00000110] (.rlcAtIX 0x35) ∧
    reads [0b11111101, 0b11001011, 0b01000010, 0b00000110] (.rlcAtIY 0x42) ∧
    reads [0b11001011, 0b00010001] (.rlReg .c) ∧
    reads [0b11001011, 0b00010110] .rlAtHL ∧
    reads [0b11011101, 0b11001011, 0b01101001, 0b00010110] (.rlAtIX 0x69) ∧
    reads [0b11111101, 0b11001011, 0b01110110, 0b00010110] (.rlAtIY 0x76) ∧
    reads [0b11001011, 0b00001101] (.rrcReg .l) ∧
    reads [0b11001011, 0b00001110] .rrcAtHL := by
  decide

theorem test_decode_rotate_2 :
    reads [0b11011101, 0b11001011, 0b10011101, 0b00001110] (.rrcAtIX 0x9D) ∧
    reads [0b11111101, 0b11001011, 0b10101010, 0b00001110] (.rrcAtIY 0xAA) ∧
    reads [0b11001011, 0b00011010] (.rrReg .d) ∧
    reads [0b11001011, 0b00011110] .rrAtHL ∧
    reads [0b11011101, 0b11001011, 0b11010001, 0b00011110] (.rrAtIX 0xD1) ∧
    reads [0b11111101, 0b11001011, 0b11011110, 0b00011110] (.rrAtIY 0xDE) ∧
    reads [0b11001011, 0b00100000] (.slaReg .b) ∧
    reads [0b11001011, 0b00100110] .slaAtHL ∧
    reads [0b11011101, 0b11001011, 0b00000101, 0b00100110] (.slaAtIX 0x05) ∧
    reads [0b11111101, 0b11001011, 0b00010010, 0b00100110] (.slaAtIY 0x12) ∧
    reads [0b11001011, 0b00101011] (.sraReg .e) ∧
    reads [0b11001011, 0b00101110] .sraAtHL ∧
    reads [0b11011101, 0b11001011, 0b00111001, 0b00101110] (.sraAtIX 0x39) ∧
    reads [0b11111101, 0b11001011, 0b01000110, 0b00101110] (.sraAtIY 0x46) := by
  decide

theorem test_decode_rotate_3 :
    reads [0b11001011, 0b00111111] (.srlReg .a) ∧
    reads [0b11001011, 0b00111110] .srlAtHL ∧
    reads [0b11011101, 0b11001011, 0b01101101, 0b00111110] (.srlAtIX 0x6D) ∧
    reads [0b11111101, 0b11001011, 0b01111010, 0b00111110] (.srlAtIY 0x7A) ∧
    reads [0b11101101, 0b01101111] .rld ∧
    reads [0b11101101, 0b01100111] .rrd := by
  decide

theorem test_decode_bit :
    reads [0b11001011, 0b01111000] (.bitReg 7 .b) ∧
    reads [0b11001011, 0b01001110] (.bitAtHL 1) ∧
    reads [0b11011101, 0b11001011, 0b10111011, 0b01010110] (.bitAtIX 2 0xBB) ∧
    reads [0b11111101, 0b11001011, 0b11001000, 0b01011110] (.bitAtIY 3 0xC8) ∧
    reads [0b11001011, 0b11100011] (.setReg 4 .e) ∧
    reads [0b11001011, 0b11101110] (.setAtHL 5) ∧
    reads [0b11011101, 0b11001011, 0b11101111, 0b11110110] (.setAtIX 6 0xEF) ∧
    reads [0b11111101, 0b11001011, 0b11111100, 0b11111110] (.setAtIY 7 0xFC) ∧
    reads [0b11001011, 0b10001111] (.resReg 1 .a) ∧
    reads [0b11001011, 0b10010110] (.resAtHL 2) ∧
    reads [0b11011101, 0b11001011, 0b00100011, 0b10011110] (.resAtIX 3 0x23) ∧
    reads [0b11111101, 0b11001011, 0b00110000, 0b10100110] (.resAtIY 4 0x30) := by
  decide

theorem test_decode_jump :
    reads [0b11000011, 0b01000101, 0b11101110] (.jpImm 0xEE45) ∧
    reads [0b11101010, 0b01001000, 0b11110011] (.jpCond .pe 0xF348) ∧
    reads [0b00011000, 0b01101010] (.jr 0x6A) ∧
    reads [0b00111000, 0b01110101] (.jrC 0x75) ∧
    reads [0b00110000, 0b10000000] (.jrNC 0x80) ∧
    reads [0b00101000, 0b10001011] (.jrZ 0x8B) ∧
    reads [0b00100000, 0b10010110] (.jrNZ 0x96) ∧
    reads [0b11101001] .jpHL ∧
    reads [0b11011101, 0b11101001] .jpIX ∧
    reads [0b11111101, 0b11101001] .jpIY ∧
    reads [0b00010000, 0b11000010] (.djnz 0xC2) := by
  decide

theorem test_decode_callReturn :
    reads [0b11001101, 0b01100110, 0b00100101] (.callImm 0x2566) ∧
    reads [0b11000100, 0b01101001, 0b00101010] (.callCond .nz 0x2A69) ∧
    reads [0b11001001] .ret ∧
    reads [0b11010000] (.retCond .nc) ∧
    reads [0b11101101, 0b01001101] .reti ∧
    reads [0b11101101, 0b01000101] .retn ∧
    reads [0b11101111] (.rst 0x28) := by
  decide

theorem test_decode_io :
    reads [0b11011011, 0b01100111] (.inAImm 0x67) ∧
    reads [0b11101101, 0b01010000] (.inRegC .d) ∧
    reads [0b11101101, 0b10100010] .ini ∧
    reads [0b11101101, 0b10110010] .inir ∧
    reads [0b11101101, 0b10101010] .ind ∧
    reads [0b11101101, 0b10111010] .indr ∧
    reads [0b11010011, 0b10010001] (.outImmA 0x91) ∧
    reads [0b11101101, 0b01001001] (.outCReg .c) ∧
    reads [0b11101101, 0b10100011] .outi ∧
    reads [0b11101101, 0b10110011] .otir ∧
    reads [0b11101101, 0b10101011] .outd ∧
    reads [0b11101101, 0b10111011] .otdr := by
  decide

/-- Reserved encodings (R109 of 30_encoding.md), part 2 of 95_test_vectors.md. -/
theorem test_decode_reserved :
    decode [0xCB, 0x30] = .reject (.reservedCB 0x30) ∧
    decode [0xED, 0x4C] = .reject (.reservedED 0x4C) ∧
    decode [0xED, 0x71] = .reject (.reservedED 0x71) ∧
    decode [0xDD, 0x24] = .reject (.reservedXY 0x24) ∧
    decode [0xDD, 0x76] = .reject (.reservedXY 0x76) ∧
    decode [0xFD, 0xED] = .reject (.reservedXY 0xED) ∧
    decode [0xDD, 0xCB, 0x02, 0x36] = .reject (.reservedXYCB 0x36) ∧
    decode [0xFD, 0xCB, 0x00, 0xC7] = .reject (.reservedXYCB 0xC7) := by
  decide

/-- The numbering of spec/opcode_table.json: the first byte is the most significant. -/
theorem test_decodeTableWord :
    decodeTableWord 24 0xC30080 = some (.jpImm 0x8000) ∧ decodeTableWord 16 0xED70 = none ∧
    decodeTableWord 32 0xDDCB0206 = some (.rlcAtIX 0x02) := by
  decide

/-! ## Single steps -/

/-- The start of the vectors: everything 0. -/
def blank : State := { State.reset with a := 0, f := 0, sp := 0 }

/-- The next state, if there is one. -/
def done : Result → Option State
  | .next t => some t
  | .fault _ => none
  | .refused _ => none

/-- The state after one step with these bytes at PC. -/
def after (code : List Byte) (s : State) : Option State := done (step (s.placeBytes code s.pc))

/-- The state after one instruction. -/
def ran (i : Instr) (s : State) : Option State := done (exec i s)

/-- The six flags in the order S Z H P/V N C. -/
abbrev szhpnc (s z h pv n c : Bool) : FlagBits := { s := s, z := z, h := h, pv := pv, n := n, c := c }

/-- The first instruction after reset, placed where the step fetches it. -/
theorem test_withFetchWord :
    (done (step (State.reset.withFetchWord 24 0x324131))).map (fun t => (t.byteAt 0x3141, t.pc)) =
      some (0xFF, 0x0003) := by
  decide

/-- V40.1. -/
theorem test_LD_H_E :
    (after [0x63] { blank with e := 0x8A, h := 0x10, f := 0xD7 }).map (fun t => (t.hl, t.pc, t.f, t.r)) =
      some (0x8A00, 0x0001, 0xD7, 0x01) := by
  decide

/-- V40.6: the address wraps below 0000h. -/
theorem test_LD_B_atIY :
    (after [0xFD, 0x46, 0xFF] { blank with mem := [(0xFFFF, 0x77)] }).map (fun t => (t.bc, t.pc)) =
      some (0x7700, 0x0003) := by
  decide

/-- V40.14. -/
theorem test_LD_atIX_n :
    (after [0xDD, 0x36, 0x05, 0x5A] { blank with ix := 0x219A }).map (fun t => (t.byteAt 0x219F, t.pc)) =
      some (0x5A, 0x0004) := by
  decide

/-- V40.23. -/
theorem test_LD_A_I_flags :
    (ran .ldAI { blank with i := 0x80, iff2 := true, f := 0x13 }).map (fun t => (t.a, t.flags)) =
      some (0x80, szhpnc true false false true false true) := by
  simp [ran, done, exec, execLdAI, State.loadAFromSpecial]
  decide

/-- V40.26: R has counted both fetches of the instruction. -/
theorem test_LD_A_R :
    (after [0xED, 0x5F] { blank with r := 0xFF }).map (fun t => (t.a, t.r)) = some (0x81, 0x81) := by
  decide

/-- V40.28. -/
theorem test_LD_R_A :
    (after [0xED, 0x4F] { blank with a := 0xC5, f := 0xD7 }).map (fun t => (t.r, t.f, t.pc)) =
      some (0xC5, 0xD7, 0x0002) := by
  decide

/-- V41.17: the high byte goes to 0000h. -/
theorem test_LD_atNN_DE :
    (after [0xED, 0x53, 0xFF, 0xFF] { blank with pc := 0x0100, d := 0xAB, e := 0xCD }).map
      (fun t => (t.byteAt 0x0000, t.byteAt 0xFFFF, t.pc)) = some (0xAB, 0xCD, 0x0104) := by
  decide

/-- V41.26: a push with SP = 0000h. -/
theorem test_PUSH_DE :
    (after [0xD5] { blank with pc := 0x0100, d := 0xCA, e := 0xFE }).map
      (fun t => (t.sp, t.byteAt 0xFFFE, t.byteAt 0xFFFF)) = some (0xFFFE, 0xFE, 0xCA) := by
  decide

/-- V41.28: all of F comes from the stack. -/
theorem test_POP_AF :
    (after [0xF1] { blank with pc := 0x0100, sp := 0x1000, mem := [(0x1000, 0xD7), (0x1001, 0x9A)] }).map
      (fun t => (t.a, t.f, t.sp)) = some (0x9A, 0xD7, 0x1002) := by
  decide

/-- V42.4. -/
theorem test_EX_atSP_HL :
    (after [0xE3] { blank with pc := 0x0100, h := 0x70, l := 0x12, sp := 0x8856, mem := [(0x8856, 0x11), (0x8857, 0x22)] }).map
      (fun t => (t.hl, t.byteAt 0x8856, t.byteAt 0x8857, t.sp)) = some (0x2211, 0x12, 0x70, 0x8856) := by
  decide

/-- V42.12. -/
theorem test_LDD :
    (after [0xED, 0xA8] { blank with pc := 0x0100, d := 0xFF, e := 0xFF, c := 2, mem := [(0x0000, 0x3E)] }).map
      (fun t => (t.bc, t.de, t.hl, t.pc, t.byteAt 0xFFFF)) = some (0x0001, 0xFFFE, 0xFFFF, 0x0102, 0x3E) := by
  decide

/-- V42.15: BC = 0 counts as 65536. -/
theorem test_LDIR_from_zero :
    (after [0xED, 0xB0] { blank with pc := 0x0100, h := 0x11, l := 0x11, d := 0x22, e := 0x22, mem := [(0x1111, 0x88)] }).map
      (fun t => (t.bc, t.de, t.hl, t.pc, t.byteAt 0x2222)) = some (0xFFFF, 0x2223, 0x1112, 0x0100, 0x88) := by
  decide

/-- V42.20. -/
theorem test_CPI_flags :
    (ran .cpi { blank with a := 0x10, h := 0x11, l := 0x11, c := 2, mem := [(0x1111, 0x01)] }).map
      (fun t => (t.bc, t.hl, t.flags)) = some (0x0001, 0x1112, szhpnc false false true true true false) := by
  simp [ran, done, exec, execCpi, State.blockCompare]
  decide

/-- V43.3. -/
theorem test_ADD_n_flags :
    (ran (.addImm 0x01) { blank with a := 0x7F }).map (fun t => (t.a, t.flags)) =
      some (0x80, szhpnc true false true true false false) := by
  simp [ran, done, exec, execAddImm, State.opAdd, State.addToA]
  decide

/-- V43.11. -/
theorem test_ADC_n_flags :
    (ran (.adcImm 0x00) { blank with a := 0x7F, f := 0x01 }).map (fun t => (t.a, t.flags)) =
      some (0x80, szhpnc true false true true false false) := by
  simp [ran, done, exec, execAdcImm, State.opAdc, State.addToA]
  decide

/-- V43.19. -/
theorem test_SUB_atIY_flags :
    (ran (.subAtIY 0x02) { blank with a := 0x7F, iy := 0x3000, mem := [(0x3002, 0xFF)] }).map
      (fun t => (t.a, t.flags)) = some (0x80, szhpnc true false false true true true) := by
  simp [ran, done, exec, execSubAtIY, State.useAt, State.opSub, State.subFromA]
  decide

/-- V43.21. -/
theorem test_SBC_n_flags :
    (ran (.sbcImm 0xFF) { blank with f := 0x01 }).map (fun t => (t.a, t.flags)) =
      some (0x00, szhpnc false true true false true true) := by
  simp [ran, done, exec, execSbcImm, State.opSbc, State.subFromA]
  decide

/-- V43.25. -/
theorem test_AND_n_flags :
    (ran (.andImm 0xF0) { blank with a := 0x0F, f := 0x03 }).map (fun t => (t.a, t.flags)) =
      some (0x00, szhpnc false true true true false false) := by
  simp [ran, done, exec, execAndImm, State.opAnd, State.logicToA]
  decide

/-- V43.27. -/
theorem test_OR_H_flags :
    (ran (.orReg .h) { blank with a := 0x12, h := 0x48, f := 0x13 }).map (fun t => (t.a, t.flags)) =
      some (0x5A, szhpnc false false false true false false) := by
  simp [ran, done, exec, execOrReg, State.opOr, State.logicToA]
  decide

/-- V43.35. -/
theorem test_CP_n_flags :
    (ran (.cpImm 0x3B) { blank with a := 0x3B }).map (fun t => (t.a, t.flags)) =
      some (0x3B, szhpnc false true false false true false) := by
  simp [ran, done, exec, execCpImm, State.opCp, State.compareA]
  decide

/-- V43.43. -/
theorem test_INC_atIY :
    (after [0xFD, 0x34, 0xFF] { blank with iy := 0x2020, mem := [(0x201F, 0xFF)] }).map
      (fun t => (t.byteAt 0x201F, t.iy, t.pc)) = some (0x00, 0x2020, 0x0003) := by
  decide

/-- V43.45. -/
theorem test_DEC_A_flags :
    (ran (.decReg .a) { blank with a := 0x80 }).map (fun t => t.flags) =
      some (szhpnc false false true true true false) := by
  simp [ran, done, exec, execDecReg, State.updateReg, decByte]
  decide

/-- V44.10. -/
theorem test_DAA_flags :
    (ran .daa { blank with a := 0xFF, f := 0x13 }).map (fun t => (t.a, t.flags)) =
      some (0x99, szhpnc true false false true true true) := by
  simp [ran, done, exec, execDaa]
  decide

/-- V44.16. -/
theorem test_NEG_flags :
    (ran .neg { blank with a := 0x01 }).map (fun t => (t.a, t.flags)) =
      some (0xFF, szhpnc true false true false true true) := by
  simp [ran, done, exec, execNeg]
  decide

/-- V44.18. -/
theorem test_CCF_flags :
    (ran .ccf { blank with f := 0x90 }).map (fun t => t.flags) =
      some (szhpnc true false false false false true) := by
  simp [ran, done, exec, execCcf, State.writeCarry]
  decide

/-- V44.22, its first step. -/
theorem test_HALT :
    (after [0x76] { blank with pc := 0x0100 }).map (fun t => (t.halted, t.pc, t.r)) = some (true, 0x0101, 0x01) := by
  decide

/-- V44.24. -/
theorem test_EI :
    (after [0xFB] blank).map (fun t => (t.iff1, t.iff2, t.eiShadow, t.pc)) = some (true, true, true, 0x0001) := by
  decide

/-- V45.9. -/
theorem test_ADC_HL_SP :
    (after [0xED, 0x7A] { blank with l := 0x01, sp := 0x0002, f := 0x03 }).map (fun t => (t.hl, t.pc)) =
      some (0x0004, 0x0002) := by
  decide

/-- V45.17. -/
theorem test_ADD_IX_IX :
    (after [0xDD, 0x29] { blank with ix := 0x9000 }).map (fun t => (t.ix, t.pc)) = some (0x2000, 0x0002) := by
  decide

/-- V45.27. -/
theorem test_DEC_BC : (after [0x0B] blank).map (fun t => (t.bc, t.f, t.pc)) = some (0xFFFF, 0x00, 0x0001) := by
  decide

/-- V46.1. -/
theorem test_RLCA_flags :
    (ran .rlca { blank with a := 0x88, f := 0xC4 }).map (fun t => (t.a, t.flags)) =
      some (0x11, szhpnc true true false true false true) := by
  simp [ran, done, exec, execRlca, State.rotateA]
  decide

/-- V46.15. -/
theorem test_RL_atIY :
    (after [0xFD, 0xCB, 0xFF, 0x16] { blank with iy := 0x4001, f := 0x01, mem := [(0x4000, 0x40)] }).map
      (fun t => (t.byteAt 0x4000, t.pc, t.r)) = some (0x81, 0x0004, 0x02) := by
  decide

/-- V46.27. -/
theorem test_SRL_B_flags :
    (ran (.srlReg .b) { blank with b := 0x8F }).map (fun t => (t.b, t.flags)) =
      some (0x47, szhpnc false false false true false true) := by
  simp [ran, done, exec, execSrlReg, State.updateReg, srlByte, rotateByte]
  decide

/-- V46.33. -/
theorem test_RRD :
    (after [0xED, 0x67] { blank with a := 0xF0, h := 0x50, f := 0x01, mem := [(0x5000, 0x0F)] }).map
      (fun t => (t.a, t.byteAt 0x5000)) = some (0xFF, 0x00) := by
  decide

/-- V47.8. -/
theorem test_BIT_atIX_flags :
    (ran (.bitAtIX 0 0x80) { blank with ix := 0x2080, f := 0x01, mem := [(0x2000, 0x01)] }).map
      (fun t => (t.flags.z, t.flags.h, t.flags.n, t.flags.c)) = some (false, true, false, true) := by
  simp [ran, done, exec, execBitAtIX, State.useAt, State.testBit]
  decide

/-- V47.12. -/
theorem test_SET_atIY :
    (after [0xFD, 0xCB, 0xFD, 0xFE] { blank with iy := 0x2000, mem := [(0x1FFD, 0x01)] }).map
      (fun t => (t.byteAt 0x1FFD, t.pc)) = some (0x81, 0x0004) := by
  decide

/-- V47.14. -/
theorem test_RES_D :
    (after [0xCB, 0xB2] { blank with d := 0xFF, f := 0xD7 }).map (fun t => (t.de, t.f)) = some (0xBF00, 0xD7) := by
  decide

/-- V48.14. -/
theorem test_JR_back : (after [0x18, 0x80] { blank with pc := 0x0480 }).map (fun t => t.pc) = some 0x0402 := by
  decide

/-- V48.16: PC wraps. -/
theorem test_JR_wraps : (after [0x18, 0x10] { blank with pc := 0xFFF8 }).map (fun t => t.pc) = some 0x000A := by
  decide

/-- V48.8. -/
theorem test_JP_PE :
    (after [0xEA, 0x34, 0x12] { blank with pc := 0x0100, f := 0x04 }).map (fun t => t.pc) = some 0x1234 := by
  decide

/-- V48.26. -/
theorem test_DJNZ :
    (after [0x10, 0xFE] { blank with pc := 0x0200, b := 1, f := 0xD7 }).map (fun t => (t.b, t.pc, t.f)) =
      some (0x00, 0x0202, 0xD7) := by
  decide

/-- V48.28. -/
theorem test_CALL :
    (after [0xCD, 0x35, 0x21] { blank with pc := 0x1A47, sp := 0x3002 }).map
      (fun t => (t.sp, t.pc, t.byteAt 0x3000, t.byteAt 0x3001)) = some (0x3000, 0x2135, 0x4A, 0x1A) := by
  decide

/-- V48.38. -/
theorem test_RETN :
    (after [0xED, 0x45] { blank with pc := 0x3535, sp := 0x2000, iff1 := true, mem := [(0x2000, 0xB5), (0x2001, 0x18)] }).map
      (fun t => (t.sp, t.pc, t.iff1)) = some (0x2002, 0x18B5, false) := by
  decide

/-- V49.1. -/
theorem test_IN_A_n :
    (after [0xDB, 0x01] { blank with a := 0x23, inputs := [{ Inputs.quiet with portByte := some 0x7B }] }).map
      (fun t => (t.a, t.pc, t.trace)) = some (0x7B, 0x0002, [.portRead 0x2301 0x7B]) := by
  decide

/-- V49.5: the port has B as it was. -/
theorem test_INI :
    (after [0xED, 0xA2]
        { blank with b := 0x10, c := 0x07, h := 0x10, inputs := [{ Inputs.quiet with portByte := some 0x7B }] }).map
      (fun t => (t.bc, t.hl, t.byteAt 0x1000, t.trace)) = some (0x0F07, 0x1001, 0x7B, [.portRead 0x1007 0x7B]) := by
  decide

/-- V49.15: the port has B as it has become. -/
theorem test_OUTI :
    (after [0xED, 0xA3] { blank with b := 0x10, c := 0x07, h := 0x10, mem := [(0x1000, 0x59)] }).map
      (fun t => (t.bc, t.hl, t.trace)) = some (0x0F07, 0x1001, [.portWrite 0x0F07 0x59]) := by
  decide

/-- A read of an absent address goes on, with a byte that nothing says (R60 of 20_memory.md). -/
theorem test_absent_read_goes_on :
    (after [0x7E] { blank with h := 0x90, memMap := [{ base := 0x9000, size := 1, kind := .absent }] }).map
      (fun t => (t.pc, t.trace)) = some (0x0001, []) := by
  decide

/-- A store to ROM changes nothing (R60 of 20_memory.md). -/
theorem test_store_to_rom :
    (after [0x36, 0x12] { blank with h := 0x90, memMap := [{ base := 0x9000, size := 0x1000, kind := .rom }] }).map
      (fun t => (t.byteAt 0x9000, t.pc)) = some (0x00, 0x0002) := by
  decide

/-- The address or port of an access. -/
def place : BusEvent → Word
  | .portRead a _ => a
  | .portWrite a _ => a
  | .memRead a _ => a
  | .memWrite a _ => a

/-- A stack that lies in a device. -/
def deviceStack : State :=
  { blank with sp := 0xFFFF, memMap := [{ base := 0xFFFF, size := 1, kind := .device }, { base := 0, size := 1, kind := .device }] }

/-- The low byte is read first (R67 of 20_memory.md). -/
theorem test_RET_reads_low_first : (ran .ret deviceStack).map (fun t => t.trace.map place) = some [0xFFFF, 0x0000] := by
  decide

/-- Read low, read high, write high, write low (R67 of 20_memory.md). -/
theorem test_EX_atSP_order :
    (ran .exAtSPIX deviceStack).map (fun t => t.trace.map place) = some [0xFFFF, 0x0000, 0x0000, 0xFFFF] := by
  decide

/-! ## Interrupts and reset (the traces of 95_test_vectors.md) -/

/-- X1, step 5. -/
theorem test_mode1_out_of_halt :
    (done (step
        { blank with
          pc := 0x0107, sp := 0x9000, iff1 := true, iff2 := true, im := .im1, halted := true, r := 0x05
          inputs := [{ Inputs.quiet with intLine := true }] })).map
      (fun t => (t.pc, t.sp, t.iff1, t.iff2, t.halted, t.r)) =
      some (0x0038, 0x8FFE, false, false, false, 0x06) := by
  decide

/-- X2, step 2. -/
theorem test_mode2 :
    (done (step
        { blank with
          pc := 0x0201, sp := 0x9000, i := 0x80, iff1 := true, iff2 := true, im := .im2, mem := [(0x80FF, 0x40)]
          inputs := [{ Inputs.quiet with intLine := true, busByte := 0xFE }] })).map
      (fun t => (t.pc, t.sp, t.iff1, t.byteAt 0x8FFE, t.byteAt 0x8FFF)) =
      some (0x4000, 0x8FFE, false, 0x01, 0x02) := by
  decide

/-- X3, step 1. -/
theorem test_mode0_rst :
    (done (step
        { blank with
          pc := 0x0200, sp := 0x9000, iff1 := true, iff2 := true
          inputs := [{ Inputs.quiet with intLine := true, busByte := 0xD7 }] })).map
      (fun t => (t.pc, t.sp, t.byteAt 0x8FFE, t.byteAt 0x8FFF)) = some (0x0010, 0x8FFE, 0x00, 0x02) := by
  decide

/-- X3 with another byte: refused (R426 of 60_exceptions.md). -/
theorem test_mode0_other :
    step { blank with iff1 := true, iff2 := true, inputs := [{ Inputs.quiet with intLine := true, busByte := 0x00 }] } =
      .refused (.mode0NotRst 0x00) := by
  rfl

/-- X4, step 3: NMI wins over INT, and IFF2 stays. -/
theorem test_nmi_wins :
    (done (step
        { blank with
          pc := 0x0302, sp := 0x9000, iff1 := true, iff2 := true, im := .im1
          inputs := [{ Inputs.quiet with nmiEdge := true, intLine := true }] })).map
      (fun t => (t.pc, t.sp, t.iff1, t.iff2, t.byteAt 0x8FFE, t.byteAt 0x8FFF)) =
      some (0x0066, 0x8FFE, false, true, 0x02, 0x03) := by
  decide

/-- X6, step 3. -/
theorem test_reset_line :
    (done (step
        { blank with
          pc := 0x0501, i := 0x80, r := 0x87, iff1 := true, iff2 := true, im := .im2, halted := true
          inputs := [{ Inputs.quiet with reset := true }] })).map
      (fun t => (t.pc, t.i, t.r, t.iff1, t.im, t.halted)) =
      some (0x0000, 0x00, 0x00, false, .im0, false) := by
  decide

/-- A reserved encoding at PC is refused (R109 of 30_encoding.md). -/
theorem test_reserved_refused :
    step (State.placeBytes [0xED, 0x70] 0 blank) = .refused (.reservedEncoding (.reservedED 0x70)) := by
  rfl

/-! ## States that meet the hypotheses of the statements -/

/-- A state with these inputs at the coming boundary. -/
def given (x : Inputs) (s : State) : State := { s with inputs := [x] }

/-- Interrupts enabled, a stack in RAM. -/
def enabled : State := { blank with iff1 := true, iff2 := true, sp := 0x9000, pc := 0x0200 }

/-- The INT line active with a byte on the bus. -/
def intWith (v : Byte) : Inputs := { Inputs.quiet with intLine := true, busByte := v }

/-- A platform with a ROM, a hole and a device. -/
def platform : State :=
  { blank with
    memMap :=
      [{ base := 0x0000, size := 0x1000, kind := .rom }, { base := 0xA000, size := 0x1000, kind := .absent },
        { base := 0xB000, size := 1, kind := .device }] }

theorem witness_DecodeOfEncode : (Instr.rst 0x38).wellFormed = true ∧ (Instr.bitAtIY 7 0x80).wellFormed = true := by
  decide

theorem witness_EncodeOfDecode : decode [0x3E, 0x12, 0xFF] = .ok (.ldRegImm .a 0x12) [0xFF] := by decide

theorem witness_FetchReadsWholeInstruction :
    decode (State.fetch (State.placeBytes [0xDD, 0xCB, 0x02, 0x06, 0xFF] 0 blank)).1 = .ok (.rlcAtIX 0x02) [] := by
  decide

theorem witness_StepRunsDecodedInstruction :
    State.reset.runsInstruction ∧ State.reset.sample.fetchInstr.1 = .ok .nop [] :=
  ⟨⟨rfl, rfl, rfl, rfl⟩, by decide⟩

theorem witness_StepRunsDecodedInstruction_reserved :
    (State.placeBytes [0xED, 0x70] 0 blank).runsInstruction ∧
      (State.placeBytes [0xED, 0x70] 0 blank).sample.fetchInstr.1 = .reject (.reservedED 0x70) :=
  ⟨⟨rfl, rfl, rfl, rfl⟩, by decide⟩

/-- The instruction's last byte stands at 0000h, behind FFFFh. -/
theorem witness_StepRunsEncodedInstruction :
    (Instr.rlcAtIX 0x02).wellFormed = true ∧
      (State.placeBytes [0xDD, 0xCB, 0x02, 0x06] 0xFFFD { blank with pc := 0xFFFD }).runsInstruction ∧
      (State.placeBytes [0xDD, 0xCB, 0x02, 0x06] 0xFFFD { blank with pc := 0xFFFD }).instructionAtPC (.rlcAtIX 0x02) := by
  refine ⟨rfl, ⟨rfl, rfl, rfl, rfl⟩, ?_⟩
  unfold State.instructionAtPC State.readable
  decide

theorem witness_StepStopsOnlyWhereRefused_reserved :
    (State.placeBytes [0xED, 0x70] 0 blank).runsInstruction ∧
      step (State.placeBytes [0xED, 0x70] 0 blank) = .refused (.reservedEncoding (.reservedED 0x70)) :=
  ⟨⟨rfl, rfl, rfl, rfl⟩, rfl⟩

theorem witness_ResetLine : (given { Inputs.quiet with reset := true, nmiEdge := true } enabled).nextInputs.reset = true := by
  decide

theorem witness_NmiAcceptance : (given { intWith 0xFF with nmiEdge := true } enabled).takesNmi := ⟨rfl, rfl⟩

theorem witness_IntAcceptanceMode0_first :
    (given (intWith 0xC7) enabled).takesInt ∧ (given (intWith 0xC7) enabled).im = .im0 ∧
      (given (intWith 0xC7) enabled).nextInputs.busByte = BitVec.ofNat 8 (0xC7 + 8 * 0) :=
  ⟨⟨rfl, rfl, rfl⟩, rfl, rfl⟩

theorem witness_IntAcceptanceMode0_last :
    (given (intWith 0xFF) enabled).takesInt ∧ (given (intWith 0xFF) enabled).im = .im0 ∧
      (given (intWith 0xFF) enabled).nextInputs.busByte = BitVec.ofNat 8 (0xC7 + 8 * 7) :=
  ⟨⟨rfl, rfl, rfl⟩, rfl, by decide⟩

theorem witness_IntAcceptanceMode0_refused :
    (given (intWith 0xCD) enabled).takesInt ∧ (given (intWith 0xCD) enabled).im = .im0 ∧
      ∀ k < 8, (given (intWith 0xCD) enabled).nextInputs.busByte ≠ BitVec.ofNat 8 (0xC7 + 8 * k) :=
  ⟨⟨rfl, rfl, rfl⟩, rfl, by decide⟩

theorem witness_IntAcceptanceMode1 :
    (given (intWith 0x00) { enabled with im := .im1 }).takesInt ∧ (given (intWith 0x00) { enabled with im := .im1 }).im = .im1 :=
  ⟨⟨rfl, rfl, rfl⟩, rfl⟩

/-- The pointer's high byte stands at 0000h, behind FFFFh. -/
theorem witness_IntAcceptanceMode2 :
    (given (intWith 0xFF) { enabled with im := .im2, i := 0xFF }).takesInt ∧
      (given (intWith 0xFF) { enabled with im := .im2, i := 0xFF }).im = .im2 ∧
      (given (intWith 0xFF) { enabled with im := .im2, i := 0xFF }).readable (joinBytes 0xFF 0xFF) ∧
      (given (intWith 0xFF) { enabled with im := .im2, i := 0xFF }).readable (joinBytes 0xFF 0xFF + 1) :=
  ⟨⟨rfl, rfl, rfl⟩, rfl, .inl rfl, .inl rfl⟩

/-- An INT that IFF1 = 0 masks leaves a halted CPU halted. -/
theorem witness_HaltedCpu_stays : (given (intWith 0xFF) { blank with halted := true }).staysHalted :=
  ⟨rfl, rfl, rfl, rfl⟩

theorem witness_HaltedCpu_ended : (given (intWith 0xFF) { blank with halted := true }).runEnded := by
  refine ⟨rfl, rfl, ?_⟩
  intro x hx
  obtain rfl : x = intWith 0xFF := by simpa [given] using hx
  exact ⟨rfl, rfl, fun _ => rfl⟩

theorem witness_EiShadow_set :
    (State.placeBytes [0xFB] 0 blank).runsInstruction ∧
      (State.placeBytes [0xFB] 0 blank).sample.fetchInstr.1 = .ok .ei [] ∧
      (after [0xFB] blank).map (fun t => (t.nextInputs.reset, t.nmiDue, t.eiShadow)) = some (false, false, true) :=
  ⟨⟨rfl, rfl, rfl, rfl⟩, by decide, by decide⟩

theorem witness_EiShadow_gone :
    (State.placeBytes [0x00] 0 { enabled with pc := 0, eiShadow := true }).runsInstruction ∧
      (State.placeBytes [0x00] 0 { enabled with pc := 0, eiShadow := true }).sample.fetchInstr.1 = .ok .nop [] ∧
      (after [0x00] { enabled with pc := 0, eiShadow := true }).map (fun t => t.eiShadow) = some false :=
  ⟨⟨rfl, rfl, rfl, rfl⟩, by decide, by decide⟩

theorem witness_StepKeepsMemoryCanonical :
    State.memoryCanonical { blank with mem := [(0x0000, 0x36), (0x0001, 0x12), (0xFFFF, 0x01)] } ∧
      (done (step { blank with mem := [(0x0000, 0x36), (0x0001, 0x12), (0xFFFF, 0x01)] })).isSome = true :=
  ⟨rfl, by decide⟩

theorem witness_StepKeepsInterruptsLegal :
    State.interruptsLegal { enabled with eiShadow := true } ∧ (done (step { enabled with eiShadow := true })).isSome = true :=
  ⟨⟨fun _ => rfl, fun _ => ⟨rfl, rfl, rfl⟩⟩, by decide⟩

theorem witness_StepChangesOnlyRam :
    (done (step platform)).isSome = true ∧ platform.kindAt 0x0FFF = .rom ∧ platform.kindAt 0xA000 = .absent := by
  decide

theorem witness_OnlyStoresAndIoReachOut_silent :
    (ran (.outImmA 0x10) blank).isSome = true ∧ storesMemory (.outImmA 0x10) = false := by
  decide

theorem witness_OnlyStoresAndIoReachOut_memory :
    (ran (.ldAtNNA 0xB000) platform).map (fun t => t.trace) = some [.memWrite 0xB000 0x00] ∧
      isIo (.ldAtNNA 0xB000) = false := by
  decide

theorem witness_ControlRegisterWriters :
    (ran .retn { blank with iff2 := true }).map (fun t => (t.iff1, t.iff2)) = some (true, true) := by
  decide

theorem witness_PcAdvancesByLength :
    transfersControl (.setAtIX 7 0x80) = false ∧ (ran (.setAtIX 7 0x80) blank).map (fun t => t.pc) = some 0x0004 := by
  decide

theorem witness_FreeValuesReachOnlyF :
    (∀ a : Word, blank.kindAt a ≠ .absent) ∧ (ran (.bitReg 7 .a) blank).isSome = true ∧
      (ran (.bitReg 7 .a) { blank with draws := 5 }).isSome = true :=
  ⟨fun _ => by simp [blank, State.reset, State.kindAt, memKind], by decide, by decide⟩

theorem witness_MemoryAccessByKind :
    platform.readable 0x0FFF ∧ platform.readable 0x1000 ∧ platform.kindAt 0xA000 = .absent ∧
      platform.kindAt 0xAFFF = .absent ∧ platform.kindAt 0xB000 = .device ∧ platform.kindAt 0xB001 = .ram :=
  ⟨.inr (by decide), .inl (by decide), by decide, by decide, by decide, by decide⟩

theorem witness_LoadSpecialRegister : blank.intFollows = false := by decide

/-- The high byte stands at 0000h, behind FFFFh, in ROM. -/
theorem witness_LoadWordFromMemory : platform.readable 0xFFFF ∧ platform.readable (0xFFFF + 1) :=
  ⟨.inl (by decide), .inr (by decide)⟩

theorem witness_PopWord : State.readable 0x8FFE enabled ∧ State.readable (0x8FFE + 1) enabled := ⟨.inl rfl, .inl rfl⟩

/-- The two bytes below SP stand at FFFFh and FFFEh. -/
theorem witness_StackRoundTrips :
    (given { Inputs.quiet with nmiEdge := true } { enabled with sp := 0 }).kindAt (0 - 1) = .ram ∧
      (given { Inputs.quiet with nmiEdge := true } { enabled with sp := 0 }).kindAt (0 - 2) = .ram ∧
      (given { Inputs.quiet with nmiEdge := true } { enabled with sp := 0 }).takesNmi :=
  ⟨rfl, rfl, rfl, rfl⟩

/-- A maskable interrupt in mode 0 with the byte of RST 00h, and one in mode 2. -/
theorem witness_StackRoundTrips_int :
    (given (intWith 0xC7) enabled).takesInt ∧ isRstByte (given (intWith 0xC7) enabled).nextInputs.busByte = true ∧
      (given (intWith 0x00) { enabled with im := .im2 }).takesInt ∧ { enabled with im := .im2 }.im ≠ .im0 ∧
      enabled.kindAt (0x9000 - 1) = .ram ∧ enabled.kindAt (0x9000 - 2) = .ram :=
  ⟨⟨rfl, rfl, rfl⟩, by decide, ⟨rfl, rfl, rfl⟩, by decide, rfl, rfl⟩

/-- A CALL NC and a RET P that are taken. -/
theorem witness_StackRoundTrips_taken : conditionMet .nc enabled = true ∧ conditionMet .p enabled = true := by decide

/-- Two bytes, copied down by one: the areas overlap. -/
def copying : State := { blank with c := 2, h := 0x20, d := 0x1F, e := 0xFF }

theorem witness_LdirCopiesBlock :
    copying.bc ≠ 0 ∧
      (∀ k < copying.bc.toNat,
        copying.readable (copying.hl + BitVec.ofNat 16 k) ∧ copying.kindAt (copying.de + BitVec.ofNat 16 k) = .ram) ∧
      (∀ j k, j < k → k < copying.bc.toNat →
        copying.de + BitVec.ofNat 16 j ≠ copying.hl + BitVec.ofNat 16 k) := by
  refine ⟨by decide, fun _ _ => ⟨.inl rfl, rfl⟩, fun j k hj hk => ?_⟩
  obtain ⟨rfl, rfl⟩ : j = 0 ∧ k = 1 := by
    have : copying.bc.toNat = 2 := rfl
    omega
  decide

theorem witness_DecimalAdjust_added : (State.flags { blank with f := 0x10 }).n = false := by decide

theorem witness_DecimalAdjust_subtracted : (State.flags { blank with f := 0x12 }).n = true := by decide

theorem witness_DecimalArithmetic : isBcd 0x99 ∧ isBcd 0x00 := by unfold isBcd; decide

theorem witness_Jumps :
    conditionMet .po blank = true ∧ conditionMet .m blank = false ∧ conditionMet .nz { blank with f := 0x40 } = false := by
  decide

theorem witness_Calls : conditionMet .pe { blank with f := 0x04 } = true ∧ conditionMet .pe blank = false := by decide

theorem witness_Returns :
    conditionMet .c { enabled with f := 0x01 } = true ∧ conditionMet .c enabled = false ∧
      State.readable 0x9000 enabled ∧ State.readable (0x9000 + 1) enabled :=
  ⟨by decide, by decide, .inl rfl, .inl rfl⟩

theorem witness_SingleInputOutput : State.now { blank with now := { Inputs.quiet with portByte := some 0x7B } } =
    { Inputs.quiet with portByte := some 0x7B } := by
  rfl

theorem witness_BlockInputOutput :
    (ran .inir { blank with b := 1, now := { Inputs.quiet with portByte := some 0x7B } }).map (fun t => (t.b, t.pc)) =
      some (0x00, 0x0002) := by
  decide

theorem witness_StepTakesOneInputRecord_empty :
    State.reset.inputs = [] ∧ (done (step State.reset)).map (fun t => t.now) = some Inputs.quiet := by
  decide

theorem witness_StepTakesOneInputRecord_first :
    (done (step { blank with inputs := [intWith 0x12, intWith 0x34] })).map (fun t => (t.now, t.inputs)) =
      some (intWith 0x12, [intWith 0x34]) := by
  decide

/-- A state whose next inputs answer a port read. -/
def answered : State := given { Inputs.quiet with portByte := some 0x7B } blank

theorem witness_StepTakesOneInputRecord_inAImm :
    (State.placeBytes [0xDB, 0x01] 0 answered).runsInstruction ∧
      (State.placeBytes [0xDB, 0x01] 0 answered).instructionAtPC (.inAImm 0x01) ∧
      (State.placeBytes [0xDB, 0x01] 0 answered).nextInputs.portByte = some 0x7B := by
  refine ⟨⟨rfl, rfl, rfl, rfl⟩, ?_, rfl⟩
  unfold State.instructionAtPC State.readable
  decide

theorem witness_StepTakesOneInputRecord_inRegC :
    (State.placeBytes [0xED, 0x78] 0 answered).runsInstruction ∧
      (State.placeBytes [0xED, 0x78] 0 answered).instructionAtPC (.inRegC .a) ∧
      (State.placeBytes [0xED, 0x78] 0 answered).nextInputs.portByte = some 0x7B := by
  refine ⟨⟨rfl, rfl, rfl, rfl⟩, ?_, rfl⟩
  unfold State.instructionAtPC State.readable
  decide

theorem witness_StepTakesOneInputRecord_ini :
    (State.placeBytes [0xED, 0xA2] 0 answered).runsInstruction ∧
      (State.placeBytes [0xED, 0xA2] 0 answered).instructionAtPC .ini ∧
      (State.placeBytes [0xED, 0xA2] 0 answered).nextInputs.portByte = some 0x7B := by
  refine ⟨⟨rfl, rfl, rfl, rfl⟩, ?_, rfl⟩
  unfold State.instructionAtPC State.readable
  decide

end Sys2Proof.Tests
end

section
/-!
PROOF of O24: where no address is absent, the free values reach nothing but F.

Two runs of one instruction are compared, from a state and from the same state with another count of free values.
Without absent addresses a read draws no free value, so that after it the two runs still differ in the count alone
(`reseed`). Every value an instruction computes is computed there. After its flag write the two runs differ in F
and the count (`sameButF`), since a flag write changes nothing else in either run, and what follows a flag write
keeps them so.
-/

namespace Sys2Proof.Machine

/-! ## The relations between two runs -/

/-- No address of the platform is absent (R60). -/
def State.noAbsent (s : State) : Prop := ∀ a : Word, s.kindAt a ≠ .absent

/-- The state with other free values still to be drawn. -/
def State.reseed (n : Nat) (s : State) : State := { s with draws := n }

/-- Two states differ at most in F and in the free values still to be drawn. -/
abbrev sameButF (s t : State) : Prop := changesOnly [.f, .draws] s t

theorem changesOnly.symm {ps : List Piece} {s t : State} (h : changesOnly ps s t) : changesOnly ps t s := by
  intro p hp
  have hp := h p hp
  cases p <;> exact Eq.symm hp

theorem sameButF_withFree (f : Byte) (n : Nat) (s : State) : sameButF s { s with f := f, draws := n } := by
  intro p hp
  cases p with
  | f | draws => simp at hp
  | reg q => cases q <;> rfl
  | _ => rfl

theorem sameButF_reseed (n : Nat) (s : State) : sameButF s (s.reseed n) := sameButF_withFree s.f n s

/-- An operation that changes only F and the count of free values can do so differently in the two runs. -/
theorem sameButF.ofFrames {s s' t t' : State} (h : sameButF s t) (hs : sameButF s s') (ht : sameButF t t') :
    sameButF s' t' :=
  (hs.symm.trans h).trans ht

/-! ## What does not depend on the count of free values -/

section
variable (n : Nat) (s : State)

@[simp] theorem State.reg8_reseed (q : Reg8) : (s.reseed n).reg8 q = s.reg8 q := by cases q <;> rfl
@[simp] theorem State.pairDD_reseed (p : PairDD) : (s.reseed n).pairDD p = s.pairDD p := by cases p <;> rfl
@[simp] theorem State.pairQQ_reseed (q : PairQQ) : (s.reseed n).pairQQ q = s.pairQQ q := by cases q <;> rfl
@[simp] theorem State.pairPP_reseed (p : PairPP) : (s.reseed n).pairPP p = s.pairPP p := by cases p <;> rfl
@[simp] theorem State.pairRR_reseed (p : PairRR) : (s.reseed n).pairRR p = s.pairRR p := by cases p <;> rfl
@[simp] theorem State.cond_reseed (cc : Cond) : (s.reseed n).cond cc = s.cond cc := by cases cc <;> rfl

variable {s}

theorem State.noAbsent.read8 (h : s.noAbsent) (a : Word) : (s.read8 a).2.noAbsent := by
  simpa [State.noAbsent] using h

/-- A read where no address is absent draws no free value. -/
theorem State.noAbsent.read8_reseed (h : s.noAbsent) (a : Word) :
    (s.reseed n).read8 a = ((s.read8 a).1, (s.read8 a).2.reseed n) := by
  have hkind : (s.reseed n).kindAt a = s.kindAt a := rfl
  simp only [State.read8, hkind]
  cases hk : s.kindAt a with
  | ram | rom | device => rfl
  | absent => exact absurd hk (h a)

theorem State.noAbsent.read16_reseed (h : s.noAbsent) (a : Word) :
    (s.reseed n).read16 a = ((s.read16 a).1, (s.read16 a).2.reseed n) := by
  simp only [State.read16, h.read8_reseed, (h.read8 a).read8_reseed]

theorem State.noAbsent.pop16_reseed (h : s.noAbsent) :
    (s.reseed n).pop16 = (s.pop16.1, s.pop16.2.reseed n) := by
  simp only [State.pop16, h.read16_reseed]
  rfl

end

/-! ## Operations that keep two states the same but for F -/

namespace sameButF
section
variable {s t : State} (h : sameButF s t)
include h

theorem bc_eq : t.bc = s.bc := congrArg₂ joinBytes (h (.reg .b) (by simp)) (h (.reg .c) (by simp))

theorem jumpTo (w : Word) : sameButF (s.jumpTo w) (t.jumpTo w) := by
  intro p hp
  have := h p hp
  cases p <;> simp_all [Piece.same]

theorem advance (k : Word) : sameButF (s.advance k) (t.advance k) := by
  have hpc : t.pc = s.pc := h .pc (by simp)
  simpa only [State.advance, State.pcNext, hpc] using h.jumpTo (s.pc + k)

theorem jumpRelative (taken : Bool) (e : Byte) : sameButF (s.jumpRelative taken e) (t.jumpRelative taken e) := by
  have hpc : t.pc = s.pc := h .pc (by simp)
  cases taken
  · exact h.advance 2
  · simpa only [State.jumpRelative, State.pcNext, hpc, ↓reduceIte] using h.jumpTo (s.pc + 2 + sext16 e)

theorem repeatWhile (again : Bool) : sameButF (s.repeatWhile again) (t.repeatWhile again) := by
  cases again
  · exact h.advance 2
  · exact h

theorem repeatWhileB : sameButF s.repeatWhileB t.repeatWhileB := by
  have hb : t.b = s.b := h (.reg .b) (by simp)
  simpa only [State.repeatWhileB, State.repeatWhile, hb] using h.repeatWhile (s.b != 0)

theorem setReg8 (q : Reg8) (v : Byte) : sameButF (s.setReg8 q v) (t.setReg8 q v) := by
  intro p hp
  have := h p hp
  cases p <;> simp_all [Piece.same]

theorem setA (v : Byte) : sameButF (s.setA v) (t.setA v) := h.setReg8 .a v
theorem setB (v : Byte) : sameButF (s.setB v) (t.setB v) := h.setReg8 .b v

theorem setBC (w : Word) : sameButF (s.setBC w) (t.setBC w) := (h.setReg8 .b (hiByte w)).setReg8 .c (loByte w)
theorem setDE (w : Word) : sameButF (s.setDE w) (t.setDE w) := (h.setReg8 .d (hiByte w)).setReg8 .e (loByte w)
theorem setHL (w : Word) : sameButF (s.setHL w) (t.setHL w) := (h.setReg8 .h (hiByte w)).setReg8 .l (loByte w)

theorem setAF (w : Word) : sameButF (s.setAF w) (t.setAF w) :=
  (h.setA (hiByte w)).ofFrames (sameButF_withFree (loByte w) s.draws _) (sameButF_withFree (loByte w) t.draws _)

theorem setIX (w : Word) : sameButF (s.setIX w) (t.setIX w) := by
  intro p hp
  have := h p hp
  cases p <;> simp_all [Piece.same]

theorem setIY (w : Word) : sameButF (s.setIY w) (t.setIY w) := by
  intro p hp
  have := h p hp
  cases p <;> simp_all [Piece.same]

theorem setSP (w : Word) : sameButF (s.setSP w) (t.setSP w) := by
  intro p hp
  have := h p hp
  cases p <;> simp_all [Piece.same]

theorem setPairDD (p : PairDD) (w : Word) : sameButF (s.setPairDD p w) (t.setPairDD p w) := by
  cases p with
  | bc => exact h.setBC w
  | de => exact h.setDE w
  | hl => exact h.setHL w
  | sp => exact h.setSP w

theorem setPairQQ (q : PairQQ) (w : Word) : sameButF (s.setPairQQ q w) (t.setPairQQ q w) := by
  cases q with
  | bc => exact h.setBC w
  | de => exact h.setDE w
  | hl => exact h.setHL w
  | af => exact h.setAF w

theorem portOut (port : Word) (v : Byte) : sameButF (s.portOut port v) (t.portOut port v) := by
  intro p hp
  have := h p hp
  cases p <;> simp_all [Piece.same]

theorem write8 (a : Word) (v : Byte) : sameButF (s.write8 a v) (t.write8 a v) := by
  have hkind : t.kindAt a = s.kindAt a := State.kindAt_of_memMap a (h .memMap (by simp))
  intro p hp
  have := h p hp
  cases p <;> simp_all [Piece.same, State.byteAt_write8, State.trace_write8, writeEvents]

theorem write16 (a v : Word) : sameButF (s.write16 a v) (t.write16 a v) := (h.write8 _ _).write8 _ _

theorem push16 (v : Word) : sameButF (s.push16 v) (t.push16 v) := by
  have hsp : t.sp = s.sp := h .sp (by simp)
  simp only [State.push16, hsp]
  exact ((h.write8 _ _).write8 _ _).setSP _

theorem callTo (target returnTo : Word) : sameButF (s.callTo target returnTo) (t.callTo target returnTo) :=
  (h.push16 returnTo).jumpTo target

theorem writeFlags (x y : FlagBits) : sameButF (s.writeFlags x) (t.writeFlags y) :=
  h.ofFrames (s.frame_writeFlags x) (t.frame_writeFlags y)

theorem setAWithByteFlags (v : Byte) : sameButF (s.setAWithByteFlags v) (t.setAWithByteFlags v) :=
  (h.setA v).writeFlags _ _

theorem add16Flags (x : Arith 16) : sameButF (s.add16Flags x) (t.add16Flags x) :=
  h.ofFrames (s.frame_add16Flags x) (t.frame_add16Flags x)

theorem carry16Flags (x : Arith 16) (k : Bool) : sameButF (s.carry16Flags x k) (t.carry16Flags x k) :=
  h.ofFrames (s.frame_carry16Flags x k) (t.frame_carry16Flags x k)

end
end sameButF

/-! ## Operations that write the flags -/

/-- Started in two states that differ in the free values alone, an operation ends in states that are the same but
for F. -/
def IgnoresDraws (op : State → State) : Prop := ∀ s n, sameButF (op s) (op (s.reseed n))

/-- The same of an operation that also gives a byte: the byte is the same. -/
def GivesByteIgnoringDraws (op : State → Byte × State) : Prop :=
  (∀ s n, (op (s.reseed n)).1 = (op s).1) ∧ IgnoresDraws fun s => (op s).2

theorem ignoresDraws_setReg8 (q : Reg8) (v : Byte) : IgnoresDraws (State.setReg8 q v) :=
  fun s n => (sameButF_reseed n s).setReg8 q v

theorem ignoresDraws_opAdd (v : Byte) : IgnoresDraws (State.opAdd v) :=
  fun s n => ((sameButF_reseed n s).setA _).writeFlags _ _

theorem ignoresDraws_opAdc (v : Byte) : IgnoresDraws (State.opAdc v) :=
  fun s n => ((sameButF_reseed n s).setA _).writeFlags _ _

theorem ignoresDraws_opSub (v : Byte) : IgnoresDraws (State.opSub v) :=
  fun s n => ((sameButF_reseed n s).setA _).writeFlags _ _

theorem ignoresDraws_opSbc (v : Byte) : IgnoresDraws (State.opSbc v) :=
  fun s n => ((sameButF_reseed n s).setA _).writeFlags _ _

theorem ignoresDraws_opAnd (v : Byte) : IgnoresDraws (State.opAnd v) :=
  fun s n => ((sameButF_reseed n s).setA _).writeFlags _ _

theorem ignoresDraws_opOr (v : Byte) : IgnoresDraws (State.opOr v) :=
  fun s n => ((sameButF_reseed n s).setA _).writeFlags _ _

theorem ignoresDraws_opXor (v : Byte) : IgnoresDraws (State.opXor v) :=
  fun s n => ((sameButF_reseed n s).setA _).writeFlags _ _

theorem ignoresDraws_opCp (v : Byte) : IgnoresDraws (State.opCp v) :=
  fun s n => (sameButF_reseed n s).writeFlags _ _

theorem ignoresDraws_testBit (b : Nat) (v : Byte) : IgnoresDraws (State.testBit b v) :=
  fun s n => (sameButF_reseed n s).ofFrames (State.frame_testBit _ b v) (State.frame_testBit _ b v)

theorem ignoresDraws_loadAFromSpecial (v : Byte) : IgnoresDraws (State.loadAFromSpecial v) := by
  intro s n
  have hint : (s.reseed n).intFollows = s.intFollows := rfl
  simp only [State.loadAFromSpecial, hint]
  cases s.intFollows with
  | false => exact ((sameButF_reseed n s).setA v).writeFlags _ _
  | true =>
    have hdrawn : sameButF s.anyBit.2 (s.reseed n).anyBit.2 := sameButF_reseed (n + 1) s.anyBit.2
    exact (hdrawn.setA v).writeFlags _ _

theorem givesByteIgnoringDraws_incByte (v : Byte) : GivesByteIgnoringDraws (incByte v) :=
  ⟨fun _ _ => rfl, fun s n => (sameButF_reseed n s).writeFlags _ _⟩

theorem givesByteIgnoringDraws_decByte (v : Byte) : GivesByteIgnoringDraws (decByte v) :=
  ⟨fun _ _ => rfl, fun s n => (sameButF_reseed n s).writeFlags _ _⟩

/-- The rotates and shifts, whose bit movement may read the old carry and nothing else of the state. -/
theorem givesByteIgnoringDraws_rotateByte (move : State → Byte → Byte × Bool)
    (hmove : ∀ s n, move (s.reseed n) = move s) (v : Byte) : GivesByteIgnoringDraws (rotateByte move v) :=
  ⟨fun s n => by simp only [rotateByte, hmove], fun s n => (sameButF_reseed n s).writeFlags _ _⟩

theorem givesByteIgnoringDraws_setBitByte (b : Nat) (v : Byte) : GivesByteIgnoringDraws (setBitByte b v) :=
  ⟨fun _ _ => rfl, fun s n => sameButF_reseed n s⟩
theorem givesByteIgnoringDraws_resBitByte (b : Nat) (v : Byte) : GivesByteIgnoringDraws (resBitByte b v) :=
  ⟨fun _ _ => rfl, fun s n => sameButF_reseed n s⟩

/-! ## Operand shapes -/

section
variable {s : State} (n : Nat)

theorem sameButF_useReg (q : Reg8) {op : Byte → State → State} (hop : ∀ v, IgnoresDraws (op v)) :
    sameButF (op (s.reg8 q) s) (op ((s.reseed n).reg8 q) (s.reseed n)) := by
  rw [State.reg8_reseed]
  exact hop _ s n

theorem sameButF_updateReg (q : Reg8) {op : Byte → State → Byte × State}
    (hop : ∀ v, GivesByteIgnoringDraws (op v)) :
    sameButF (s.updateReg q op) ((s.reseed n).updateReg q op) := by
  obtain ⟨hbyte, hstate⟩ := hop (s.reg8 q)
  simp only [State.updateReg, State.reg8_reseed, hbyte]
  exact (hstate s n).setReg8 q _

variable (h : s.noAbsent)
include h

theorem sameButF_useAt (a : Word) {op : Byte → State → State} (hop : ∀ v, IgnoresDraws (op v)) :
    sameButF (s.useAt a op) ((s.reseed n).useAt a op) := by
  simp only [State.useAt, h.read8_reseed]
  exact hop _ _ n

theorem sameButF_updateAt (a : Word) {op : Byte → State → Byte × State}
    (hop : ∀ v, GivesByteIgnoringDraws (op v)) :
    sameButF (s.updateAt a op) ((s.reseed n).updateAt a op) := by
  obtain ⟨hbyte, hstate⟩ := hop (s.read8 a).1
  simp only [State.updateAt, h.read8_reseed, hbyte]
  exact (hstate _ n).write8 a _

theorem sameButF_loadRegAt (q : Reg8) (a : Word) : sameButF (s.loadRegAt q a) ((s.reseed n).loadRegAt q a) :=
  sameButF_useAt n h a (ignoresDraws_setReg8 q)

theorem sameButF_load16At (a : Word) {put : Word → State → State}
    (hput : ∀ {s t : State}, sameButF s t → ∀ w, sameButF (put w s) (put w t)) :
    sameButF (s.load16At a put) ((s.reseed n).load16At a put) := by
  simp only [State.load16At, h.read16_reseed]
  exact hput (sameButF_reseed n _) _

theorem sameButF_popInto {put : Word → State → State}
    (hput : ∀ {s t : State}, sameButF s t → ∀ w, sameButF (put w s) (put w t)) :
    sameButF (s.popInto put) ((s.reseed n).popInto put) := by
  simp only [State.popInto, h.pop16_reseed]
  exact hput (sameButF_reseed n _) _

theorem sameButF_exchangeTop (old : Word) {put : Word → State → State}
    (hput : ∀ {s t : State}, sameButF s t → ∀ w, sameButF (put w s) (put w t)) :
    sameButF (s.exchangeTop old put) ((s.reseed n).exchangeTop old put) := by
  simp only [State.exchangeTop, h.read16_reseed]
  exact hput (((sameButF_reseed n _).write8 _ _).write8 _ _) _

/-! ## Returns -/

theorem returnPop_reseed : (s.reseed n).returnPop = s.returnPop.reseed n := by
  simp only [State.returnPop, h.pop16_reseed]
  rfl

theorem sameButF_returnPop : sameButF s.returnPop (s.reseed n).returnPop := by
  rw [returnPop_reseed n h]
  exact sameButF_reseed n _

theorem sameButF_returnFromNmi : sameButF s.returnFromNmi (s.reseed n).returnFromNmi := by
  simp only [State.returnFromNmi, returnPop_reseed n h]
  exact sameButF_reseed n { s.returnPop with iff1 := s.returnPop.iff2 }

/-! ## RLD and RRD, block instructions -/

theorem sameButF_blockLoad (delta : Word) : sameButF (s.blockLoad delta) ((s.reseed n).blockLoad delta) := by
  simp only [State.blockLoad, h.read8_reseed]
  exact (((((sameButF_reseed n _).write8 _ _).setDE _).setHL _).setBC _).writeFlags _ _

theorem sameButF_blockCompare (delta : Word) :
    sameButF (s.blockCompare delta) ((s.reseed n).blockCompare delta) := by
  simp only [State.blockCompare, h.read8_reseed]
  exact (((sameButF_reseed n _).setHL _).setBC _).writeFlags _ _

/-- Of the flags of a block comparison CPIR and CPDR read Z again; it is computed, not free. -/
theorem blockCompare_reseed_z (delta : Word) :
    ((s.reseed n).blockCompare delta).flags.z = (s.blockCompare delta).flags.z := by
  simp only [State.blockCompare, h.read8_reseed, State.flags_writeFlags]
  rfl

theorem sameButF_repeatedCompare (delta : Word) :
    sameButF
      ((s.blockCompare delta).repeatWhile ((s.blockCompare delta).bc != 0 && !(s.blockCompare delta).flags.z))
      (((s.reseed n).blockCompare delta).repeatWhile
        (((s.reseed n).blockCompare delta).bc != 0 && !((s.reseed n).blockCompare delta).flags.z)) := by
  have hsame := sameButF_blockCompare n h delta
  rw [hsame.bc_eq, blockCompare_reseed_z n h]
  exact hsame.repeatWhile _

theorem sameButF_repeatedLoad (delta : Word) :
    sameButF ((s.blockLoad delta).repeatWhile ((s.blockLoad delta).bc != 0))
      (((s.reseed n).blockLoad delta).repeatWhile (((s.reseed n).blockLoad delta).bc != 0)) := by
  have hsame := sameButF_blockLoad n h delta
  rw [hsame.bc_eq]
  exact hsame.repeatWhile _

omit h in
theorem sameButF_blockIn (delta : Word) : sameButF (s.blockIn delta) ((s.reseed n).blockIn delta) :=
  ((((sameButF_reseed n (s.portIn s.bc).2).write8 _ _).setB _).setHL _).ofFrames
    (State.frame_blockIoFlags _) (State.frame_blockIoFlags _)

theorem sameButF_blockOut (delta : Word) : sameButF (s.blockOut delta) ((s.reseed n).blockOut delta) := by
  simp only [State.blockOut, h.read8_reseed]
  exact ((((sameButF_reseed n _).setB _).portOut _ _).setHL _).ofFrames
    (State.frame_blockIoFlags _) (State.frame_blockIoFlags _)

end

/-! ## Every instruction -/

/-- Where both answer a next state, the two states are the same but for F. -/
def ResultsSameButF (x y : Result) : Prop := ∀ t u, x = .next t → y = .next u → sameButF t u

theorem ResultsSameButF.next {t u : State} (h : sameButF t u) : ResultsSameButF (.next t) (.next u) := by
  intro t' u' ht hu
  cases ht
  cases hu
  exact h

theorem sameButF_ite {s s' t t' : State} (taken : Bool) (hthen : sameButF s t) (helse : sameButF s' t') :
    sameButF (if taken then s else s') (if taken then t else t') := by
  cases taken
  · exact helse
  · exact hthen

/-- The two runs of each instruction: what it reads is read before its flag write, while the runs differ in the count
alone, and what follows the flag write keeps them the same but for F. -/
theorem exec_reseed_sameButF (i : Instr) (s : State) (n : Nat) (h : s.noAbsent) :
    ResultsSameButF (exec i s) (exec i (s.reseed n)) := by
  have start : sameButF s (s.reseed n) := sameButF_reseed n s
  cases i with
  -- 8-bit loads
  | ldRegReg q q' => exact .next ((sameButF_useReg n q' (ignoresDraws_setReg8 q)).advance _)
  | ldRegImm q v => exact .next ((start.setReg8 q v).advance _)
  | ldRegAtHL q | ldRegAtIX q d | ldRegAtIY q d => exact .next ((sameButF_loadRegAt n h q _).advance _)
  | ldAAtBC | ldAAtDE | ldAAtNN nn => exact .next ((sameButF_loadRegAt n h .a _).advance _)
  | ldAtHLReg q | ldAtIXReg d q | ldAtIYReg d q =>
    exact .next (by rw [State.reg8_reseed]; exact (start.write8 _ _).advance _)
  | ldAtHLImm v | ldAtIXImm d v | ldAtIYImm d v | ldAtBCA | ldAtDEA | ldAtNNA nn =>
    exact .next ((start.write8 _ _).advance _)
  | ldAI | ldAR => exact .next ((ignoresDraws_loadAFromSpecial _ s n).advance _)
  | ldIA => exact .next ((sameButF_reseed n { s with i := s.a }).advance _)
  | ldRA => exact .next ((sameButF_reseed n { s with r := s.a }).advance _)
  -- 16-bit loads, PUSH and POP
  | ldPairImm p nn => exact .next ((start.setPairDD p nn).advance _)
  | ldIXImm nn => exact .next ((start.setIX nn).advance _)
  | ldIYImm nn => exact .next ((start.setIY nn).advance _)
  | ldHLAtNN nn => exact .next ((sameButF_load16At n h nn sameButF.setHL).advance _)
  | ldPairAtNN p nn => exact .next ((sameButF_load16At n h nn (·.setPairDD p)).advance _)
  | ldIXAtNN nn => exact .next ((sameButF_load16At n h nn sameButF.setIX).advance _)
  | ldIYAtNN nn => exact .next ((sameButF_load16At n h nn sameButF.setIY).advance _)
  | ldAtNNHL nn | ldAtNNIX nn | ldAtNNIY nn => exact .next ((start.write16 nn _).advance _)
  | ldAtNNPair nn p => exact .next (by rw [State.pairDD_reseed]; exact (start.write16 nn _).advance _)
  | ldSPHL | ldSPIX | ldSPIY => exact .next ((start.setSP _).advance _)
  | pushPair q => exact .next (by rw [State.pairQQ_reseed]; exact (start.push16 _).advance _)
  | pushIX | pushIY => exact .next ((start.push16 _).advance _)
  | popPair q => exact .next ((sameButF_popInto n h (·.setPairQQ q)).advance _)
  | popIX => exact .next ((sameButF_popInto n h sameButF.setIX).advance _)
  | popIY => exact .next ((sameButF_popInto n h sameButF.setIY).advance _)
  -- Exchange, block transfer, block search
  | exDEHL => exact .next (((start.setDE _).setHL _).advance _)
  | exAFAF => exact .next ((sameButF_reseed n { s with a := s.a', f := s.f', a' := s.a, f' := s.f }).advance _)
  | exx =>
    exact .next ((sameButF_reseed n { s with
      b := s.b', c := s.c', d := s.d', e := s.e', h := s.h', l := s.l'
      b' := s.b, c' := s.c, d' := s.d, e' := s.e, h' := s.h, l' := s.l }).advance _)
  | exAtSPHL => exact .next ((sameButF_exchangeTop n h _ sameButF.setHL).advance _)
  | exAtSPIX => exact .next ((sameButF_exchangeTop n h _ sameButF.setIX).advance _)
  | exAtSPIY => exact .next ((sameButF_exchangeTop n h _ sameButF.setIY).advance _)
  | ldi | ldd => exact .next ((sameButF_blockLoad n h _).advance _)
  | ldir | lddr => exact .next (sameButF_repeatedLoad n h _)
  | cpi | cpd => exact .next ((sameButF_blockCompare n h _).advance _)
  | cpir | cpdr => exact .next (sameButF_repeatedCompare n h _)
  -- 8-bit arithmetic and logic
  | addReg q => exact .next ((sameButF_useReg n q ignoresDraws_opAdd).advance _)
  | adcReg q => exact .next ((sameButF_useReg n q ignoresDraws_opAdc).advance _)
  | subReg q => exact .next ((sameButF_useReg n q ignoresDraws_opSub).advance _)
  | sbcReg q => exact .next ((sameButF_useReg n q ignoresDraws_opSbc).advance _)
  | andReg q => exact .next ((sameButF_useReg n q ignoresDraws_opAnd).advance _)
  | orReg q => exact .next ((sameButF_useReg n q ignoresDraws_opOr).advance _)
  | xorReg q => exact .next ((sameButF_useReg n q ignoresDraws_opXor).advance _)
  | cpReg q => exact .next ((sameButF_useReg n q ignoresDraws_opCp).advance _)
  | addImm v => exact .next ((ignoresDraws_opAdd v s n).advance _)
  | adcImm v => exact .next ((ignoresDraws_opAdc v s n).advance _)
  | subImm v => exact .next ((ignoresDraws_opSub v s n).advance _)
  | sbcImm v => exact .next ((ignoresDraws_opSbc v s n).advance _)
  | andImm v => exact .next ((ignoresDraws_opAnd v s n).advance _)
  | orImm v => exact .next ((ignoresDraws_opOr v s n).advance _)
  | xorImm v => exact .next ((ignoresDraws_opXor v s n).advance _)
  | cpImm v => exact .next ((ignoresDraws_opCp v s n).advance _)
  | addAtHL | addAtIX d | addAtIY d => exact .next ((sameButF_useAt n h _ ignoresDraws_opAdd).advance _)
  | adcAtHL | adcAtIX d | adcAtIY d => exact .next ((sameButF_useAt n h _ ignoresDraws_opAdc).advance _)
  | subAtHL | subAtIX d | subAtIY d => exact .next ((sameButF_useAt n h _ ignoresDraws_opSub).advance _)
  | sbcAtHL | sbcAtIX d | sbcAtIY d => exact .next ((sameButF_useAt n h _ ignoresDraws_opSbc).advance _)
  | andAtHL | andAtIX d | andAtIY d => exact .next ((sameButF_useAt n h _ ignoresDraws_opAnd).advance _)
  | orAtHL | orAtIX d | orAtIY d => exact .next ((sameButF_useAt n h _ ignoresDraws_opOr).advance _)
  | xorAtHL | xorAtIX d | xorAtIY d => exact .next ((sameButF_useAt n h _ ignoresDraws_opXor).advance _)
  | cpAtHL | cpAtIX d | cpAtIY d => exact .next ((sameButF_useAt n h _ ignoresDraws_opCp).advance _)
  | incReg q => exact .next ((sameButF_updateReg n q givesByteIgnoringDraws_incByte).advance _)
  | decReg q => exact .next ((sameButF_updateReg n q givesByteIgnoringDraws_decByte).advance _)
  | incAtHL | incAtIX d | incAtIY d =>
    exact .next ((sameButF_updateAt n h _ givesByteIgnoringDraws_incByte).advance _)
  | decAtHL | decAtIX d | decAtIY d =>
    exact .next ((sameButF_updateAt n h _ givesByteIgnoringDraws_decByte).advance _)
  -- General arithmetic and CPU control
  | daa | cpl | neg => exact .next (((start.setA _).writeFlags _ _).advance _)
  | ccf | scf => exact .next ((start.writeFlags _ _).advance _)
  | nop => exact .next (start.advance _)
  | halt => exact .next ((sameButF_reseed n { s with halted := true }).advance _)
  | di => exact .next ((sameButF_reseed n { s with iff1 := false, iff2 := false }).advance _)
  | ei => exact .next ((sameButF_reseed n { s with iff1 := true, iff2 := true, eiShadow := true }).advance _)
  | im0 => exact .next ((sameButF_reseed n { s with im := .im0 }).advance _)
  | im1 => exact .next ((sameButF_reseed n { s with im := .im1 }).advance _)
  | im2 => exact .next ((sameButF_reseed n { s with im := .im2 }).advance _)
  -- 16-bit arithmetic
  | addHLPair p => exact .next (by rw [State.pairDD_reseed]; exact ((start.setHL _).add16Flags _).advance _)
  | adcHLPair p | sbcHLPair p =>
    exact .next (by rw [State.pairDD_reseed]; exact ((start.setHL _).carry16Flags _ _).advance _)
  | addIXPair p => exact .next (by rw [State.pairPP_reseed]; exact ((start.setIX _).add16Flags _).advance _)
  | addIYPair p => exact .next (by rw [State.pairRR_reseed]; exact ((start.setIY _).add16Flags _).advance _)
  | incPair p | decPair p =>
    exact .next (by rw [State.pairDD_reseed]; exact (start.setPairDD p _).advance _)
  | incIX | decIX => exact .next ((start.setIX _).advance _)
  | incIY | decIY => exact .next ((start.setIY _).advance _)
  -- Rotate and shift
  | rlca | rla | rrca | rra => exact .next (((start.setA _).writeFlags _ _).advance _)
  | rlcReg q | rlReg q | rrcReg q | rrReg q | slaReg q | sraReg q | srlReg q =>
    exact .next ((sameButF_updateReg n q (givesByteIgnoringDraws_rotateByte _ (by intros; rfl))).advance _)
  | rlcAtHL | rlcAtIX d | rlcAtIY d | rlAtHL | rlAtIX d | rlAtIY d | rrcAtHL | rrcAtIX d | rrcAtIY d
  | rrAtHL | rrAtIX d | rrAtIY d | slaAtHL | slaAtIX d | slaAtIY d | sraAtHL | sraAtIX d | sraAtIY d
  | srlAtHL | srlAtIX d | srlAtIY d =>
    exact .next ((sameButF_updateAt n h _ (givesByteIgnoringDraws_rotateByte _ (by intros; rfl))).advance _)
  | rld | rrd =>
    exact .next (by
      simp only [h.read8_reseed]
      exact (((sameButF_reseed n _).write8 _ _).setAWithByteFlags _).advance _)
  -- Bit set, reset and test
  | bitReg b q => exact .next ((sameButF_useReg n q (ignoresDraws_testBit b)).advance _)
  | bitAtHL b | bitAtIX b d | bitAtIY b d =>
    exact .next ((sameButF_useAt n h _ (ignoresDraws_testBit b)).advance _)
  | setReg b q => exact .next ((sameButF_updateReg n q (givesByteIgnoringDraws_setBitByte b)).advance _)
  | setAtHL b | setAtIX b d | setAtIY b d =>
    exact .next ((sameButF_updateAt n h _ (givesByteIgnoringDraws_setBitByte b)).advance _)
  | resReg b q => exact .next ((sameButF_updateReg n q (givesByteIgnoringDraws_resBitByte b)).advance _)
  | resAtHL b | resAtIX b d | resAtIY b d =>
    exact .next ((sameButF_updateAt n h _ (givesByteIgnoringDraws_resBitByte b)).advance _)
  -- Jumps
  | jpImm _ | jpHL | jpIX | jpIY => exact .next (start.jumpTo _)
  | jpCond cc nn =>
    exact .next (by rw [State.cond_reseed]; exact sameButF_ite _ (start.jumpTo nn) (start.advance _))
  | jr e | jrC e | jrNC e | jrZ e | jrNZ e => exact .next (start.jumpRelative _ e)
  | djnz e => exact .next ((start.setB _).jumpRelative _ e)
  -- Call and return
  | callImm nn => exact .next (start.callTo nn _)
  | callCond cc nn =>
    exact .next (by rw [State.cond_reseed]; exact sameButF_ite _ (start.callTo nn _) (start.advance _))
  | ret | reti => exact .next (sameButF_returnPop n h)
  | retCond cc =>
    exact .next (by rw [State.cond_reseed]; exact sameButF_ite _ (sameButF_returnPop n h) (start.advance _))
  | retn => exact .next (sameButF_returnFromNmi n h)
  | rst p => exact .next (start.callTo _ _)
  -- Input and output
  | inAImm v => exact .next (((sameButF_reseed n (s.portIn (joinBytes s.a v)).2).setA _).advance _)
  | inRegC q => exact .next ((((sameButF_reseed n (s.portIn s.bc).2).setReg8 q _).writeFlags _ _).advance _)
  | ini | ind => exact .next ((sameButF_blockIn n _).advance _)
  | inir | indr => exact .next (sameButF_blockIn n _).repeatWhileB
  | outImmA v => exact .next ((start.portOut _ _).advance _)
  | outCReg q => exact .next (by rw [State.reg8_reseed]; exact (start.portOut _ _).advance _)
  | outi | outd => exact .next ((sameButF_blockOut n h _).advance _)
  | otir | otdr => exact .next (sameButF_blockOut n h _).repeatWhileB

/-- Settles O24, by comparing the two runs instruction by instruction. -/
theorem freeValuesReachOnlyF : Obligations.FreeValuesReachOnlyF := by
  unfold Obligations.FreeValuesReachOnlyF
  intro i s t u n hkind ht hu
  exact exec_reseed_sameButF i s n hkind t u ht hu

end Sys2Proof.Machine
end

section
/-!
PROOF of O18 and O22: the state after reset, and PC after an instruction that does not transfer control.

Every such instruction is one operation followed by `advance` by the length of its encoding. The operation's frame does
not list PC, so that `advance` counts from the instruction's own address.
-/

namespace Sys2Proof.Machine

/-! ## The reset state -/

/-- After reset no interrupt is enabled and no EI shadow stands. -/
theorem State.interruptsLegal_reset : State.reset.interruptsLegal := ⟨nofun, nofun⟩

/-- Settles O18: the fixed registers by evaluation, the two invariants by their lemmas about the reset state. -/
theorem resetState : Obligations.ResetState := by
  unfold Obligations.ResetState
  exact ⟨rfl, rfl, rfl, rfl, rfl, rfl, rfl, rfl, rfl, Memory.wf_reset, State.interruptsLegal_reset⟩

/-! ## PC under a frame -/

/-- No 16-bit register or pair that an instruction loads is PC. -/
@[simp] theorem WordReg.pc_notMem_pieces (w : WordReg) : Piece.pc ∉ w.pieces := by
  cases w with
  | dd p => cases p <;> simp [WordReg.pieces]
  | qq q => cases q <;> simp [WordReg.pieces]
  | ix | iy => simp [WordReg.pieces]

/-- Where the instruction gives a next state, its PC is `k` after that of `s`. -/
def AdvancesPc (k : Word) (s : State) (x : Result) : Prop := ∀ t, x = .next t → t.pc = s.pc + k

theorem AdvancesPc.ofPc {s u : State} {k : Word} (h : u.pc = s.pc) : AdvancesPc k s (.next (u.advance k)) := by
  intro t ht
  cases ht
  rw [State.advance_pc, h]

/-- An operation whose frame leaves out PC, then `advance`. -/
theorem AdvancesPc.ofFrame {ps : List Piece} {s u : State} {k : Word} (h : changesOnly ps s u)
    (hpc : Piece.pc ∉ ps := by simp) : AdvancesPc k s (.next (u.advance k)) := .ofPc (h .pc hpc)

/-! ## Every instruction -/

theorem exec_advancesPc (i : Instr) (s : State) (hi : transfersControl i = false) :
    AdvancesPc (BitVec.ofNat 16 (encode i).length) s (exec i s) := by
  cases i with
  -- 8-bit loads
  | ldRegReg q _ | ldRegImm q _ => exact .ofFrame (s.frame_setReg8 q _)
  | ldRegAtHL q | ldRegAtIX q _ | ldRegAtIY q _ => exact .ofFrame (s.frame_loadRegAt q _)
  | ldAAtBC | ldAAtDE | ldAAtNN _ => exact .ofFrame (s.frame_loadRegAt .a _)
  | ldAtHLReg _ | ldAtIXReg _ _ | ldAtIYReg _ _ | ldAtHLImm _ | ldAtIXImm _ _ | ldAtIYImm _ _
  | ldAtBCA | ldAtDEA | ldAtNNA _ => exact .ofFrame (s.frame_write8 _ _)
  | ldAI | ldAR => exact .ofFrame (s.frame_loadAFromSpecial _)
  | ldIA | ldRA => exact .ofPc rfl
  -- 16-bit loads, PUSH and POP
  | ldPairImm p _ => exact .ofFrame (s.frame_setPairDD p _)
  | ldIXImm _ => exact .ofFrame (s.frame_setIX _)
  | ldIYImm _ => exact .ofFrame (s.frame_setIY _)
  | ldHLAtNN _ => exact .ofFrame (s.frame_load16At (fun w t => t.frame_setHL w) _)
  | ldPairAtNN p _ => exact .ofFrame (s.frame_load16At (fun w t => t.frame_setPairDD p w) _)
  | ldIXAtNN _ => exact .ofFrame (s.frame_load16At (fun w t => t.frame_setIX w) _)
  | ldIYAtNN _ => exact .ofFrame (s.frame_load16At (fun w t => t.frame_setIY w) _)
  | ldAtNNHL _ | ldAtNNPair _ _ | ldAtNNIX _ | ldAtNNIY _ => exact .ofFrame (s.frame_write16 _ _)
  | ldSPHL | ldSPIX | ldSPIY => exact .ofFrame (s.frame_setSP _)
  | pushPair _ | pushIX | pushIY => exact .ofFrame (s.frame_push16 _)
  | popPair q => exact .ofFrame (s.frame_popInto fun w t => t.frame_setPairQQ q w)
  | popIX => exact .ofFrame (s.frame_popInto fun w t => t.frame_setIX w)
  | popIY => exact .ofFrame (s.frame_popInto fun w t => t.frame_setIY w)
  -- Exchange, block transfer, block search
  | exDEHL | exAFAF | exx => exact .ofPc rfl
  | exAtSPHL => exact .ofFrame (s.frame_exchangeTop (fun w t => t.frame_setHL w) _)
  | exAtSPIX => exact .ofFrame (s.frame_exchangeTop (fun w t => t.frame_setIX w) _)
  | exAtSPIY => exact .ofFrame (s.frame_exchangeTop (fun w t => t.frame_setIY w) _)
  | ldi | ldd => exact .ofFrame (s.frame_blockLoad _)
  | cpi | cpd => exact .ofFrame (s.frame_blockCompare _)
  -- 8-bit arithmetic and logic
  | addReg _ | addImm _ => exact .ofFrame (s.frame_opAdd _)
  | adcReg _ | adcImm _ => exact .ofFrame (s.frame_opAdc _)
  | subReg _ | subImm _ => exact .ofFrame (s.frame_opSub _)
  | sbcReg _ | sbcImm _ => exact .ofFrame (s.frame_opSbc _)
  | andReg _ | andImm _ => exact .ofFrame (s.frame_opAnd _)
  | orReg _ | orImm _ => exact .ofFrame (s.frame_opOr _)
  | xorReg _ | xorImm _ => exact .ofFrame (s.frame_opXor _)
  | cpReg _ | cpImm _ => exact .ofFrame (s.frame_opCp _)
  | addAtHL | addAtIX _ | addAtIY _ => exact .ofFrame (s.frame_useAt (fun v t => t.frame_opAdd v) _)
  | adcAtHL | adcAtIX _ | adcAtIY _ => exact .ofFrame (s.frame_useAt (fun v t => t.frame_opAdc v) _)
  | subAtHL | subAtIX _ | subAtIY _ => exact .ofFrame (s.frame_useAt (fun v t => t.frame_opSub v) _)
  | sbcAtHL | sbcAtIX _ | sbcAtIY _ => exact .ofFrame (s.frame_useAt (fun v t => t.frame_opSbc v) _)
  | andAtHL | andAtIX _ | andAtIY _ => exact .ofFrame (s.frame_useAt (fun v t => t.frame_opAnd v) _)
  | orAtHL | orAtIX _ | orAtIY _ => exact .ofFrame (s.frame_useAt (fun v t => t.frame_opOr v) _)
  | xorAtHL | xorAtIX _ | xorAtIY _ => exact .ofFrame (s.frame_useAt (fun v t => t.frame_opXor v) _)
  | cpAtHL | cpAtIX _ | cpAtIY _ => exact .ofFrame (s.frame_useAt (fun v t => t.frame_opCp v) _)
  | incReg q => exact .ofFrame (s.frame_updateReg (fun v t => frame_incByte t v) q)
  | decReg q => exact .ofFrame (s.frame_updateReg (fun v t => frame_decByte t v) q)
  | incAtHL | incAtIX _ | incAtIY _ => exact .ofFrame (s.frame_updateAt (fun v t => frame_incByte t v) _)
  | decAtHL | decAtIX _ | decAtIY _ => exact .ofFrame (s.frame_updateAt (fun v t => frame_decByte t v) _)
  -- General arithmetic and CPU control
  | daa | cpl | neg => exact .ofPc (by simp)
  | ccf | scf => exact .ofFrame (s.frame_writeCarry _ _)
  | nop | halt | di | ei | im0 | im1 | im2 => exact .ofPc rfl
  -- 16-bit arithmetic
  | addHLPair _ | addIXPair _ | addIYPair _ => exact .ofPc ((State.frame_add16Flags _ _) .pc (by simp))
  | adcHLPair _ | sbcHLPair _ => exact .ofPc ((State.frame_carry16Flags _ _ _) .pc (by simp))
  | incPair p | decPair p => exact .ofFrame (s.frame_setPairDD p _)
  | incIX | decIX => exact .ofFrame (s.frame_setIX _)
  | incIY | decIY => exact .ofFrame (s.frame_setIY _)
  -- Rotate and shift
  | rlca | rla | rrca | rra => exact .ofFrame (s.frame_rotateA _)
  | rlcReg q | rlReg q | rrcReg q | rrReg q | slaReg q | sraReg q | srlReg q =>
    exact .ofFrame (s.frame_updateReg (fun v t => frame_rotateByte t _ v) q)
  | rlcAtHL | rlcAtIX _ | rlcAtIY _ | rlAtHL | rlAtIX _ | rlAtIY _ | rrcAtHL | rrcAtIX _ | rrcAtIY _
  | rrAtHL | rrAtIX _ | rrAtIY _ | slaAtHL | slaAtIX _ | slaAtIY _ | sraAtHL | sraAtIX _ | sraAtIY _
  | srlAtHL | srlAtIX _ | srlAtIY _ => exact .ofFrame (s.frame_updateAt (fun v t => frame_rotateByte t _ v) _)
  | rld | rrd => exact .ofPc (((State.frame_setAWithByteFlags _ _) .pc (by simp)).trans (by simp))
  -- Bit set, reset and test
  | bitReg b _ => exact .ofFrame (s.frame_testBit b _)
  | bitAtHL b | bitAtIX b _ | bitAtIY b _ => exact .ofFrame (s.frame_useAt (fun v t => t.frame_testBit b v) _)
  | setReg b q => exact .ofFrame (s.frame_updateReg (fun v t => frame_setBitByte t b v) q)
  | resReg b q => exact .ofFrame (s.frame_updateReg (fun v t => frame_resBitByte t b v) q)
  | setAtHL b | setAtIX b _ | setAtIY b _ => exact .ofFrame (s.frame_updateAt (fun v t => frame_setBitByte t b v) _)
  | resAtHL b | resAtIX b _ | resAtIY b _ => exact .ofFrame (s.frame_updateAt (fun v t => frame_resBitByte t b v) _)
  -- Input and output
  | inAImm _ | inRegC _ => exact .ofPc (by simp)
  | ini | ind => exact .ofFrame (s.frame_blockIn _)
  | outImmA _ | outCReg _ => exact .ofFrame (s.frame_portOut _ _)
  | outi | outd => exact .ofFrame (s.frame_blockOut _)
  -- The instructions that transfer control are excluded
  | _ => cases hi

/-- Settles O22, instruction by instruction, from the frames of the shared operations. -/
theorem pcAdvancesByLength : Obligations.PcAdvancesByLength := by
  unfold Obligations.PcAdvancesByLength
  intro i s t hi ht
  exact exec_advancesPc i s hi t ht

end Sys2Proof.Machine
end

section
/-!
PROOF of O7: where the bytes of an instruction stand at PC in memory, the step is that instruction.

Three facts make it up. The bytes of a well-formed instruction are as many as a fetch reads where they stand, and they
decode to the instruction (`encode_readsWhole`, one split over the constructors). A fetch of bytes that memory holds
reads these bytes and changes only R (`State.fetch_of_holdsAt`). A step that runs an instruction fetches from the
sampled state with the EI shadow cleared (`step_of_fetch`).
-/

namespace Sys2Proof

/-! ## The fields of the encoder's opcode bytes (R92, R97, R98, R104) -/

@[simp] theorem fieldX_opcode (x : BitVec 2) (y z : BitVec 3) : fieldX (opcode x y z) = x.toNat := by
  revert x y z; decide

@[simp] theorem fieldY_opcode (x : BitVec 2) (y z : BitVec 3) : fieldY (opcode x y z) = y.toNat := by
  revert x y z; decide

@[simp] theorem fieldZ_opcode (x : BitVec 2) (y z : BitVec 3) : fieldZ (opcode x y z) = z.toNat := by
  revert x y z; decide

@[simp] theorem regOfCode_code (r : Reg8) : regOfCode r.code.toNat = some r := by cases r <;> rfl

@[simp] theorem toNat_codeAtHL : codeAtHL.toNat = 6 := rfl

@[simp] theorem regOfCode_six : regOfCode 6 = none := rfl

theorem toNat_bitCode {b : Nat} (hb : bitNumberOk b = true) : (bitCode b).toNat = b :=
  Nat.mod_eq_of_lt (of_decide_eq_true hb)

theorem restartOk_cases : ∀ {p : Byte}, restartOk p = true →
    p = 0x00 ∨ p = 0x08 ∨ p = 0x10 ∨ p = 0x18 ∨ p = 0x20 ∨ p = 0x28 ∨ p = 0x30 ∨ p = 0x38 := by
  decide

/-! ## Decoding the operands of an encoding -/

/-- A word operand is read back from its two bytes (R100). -/
theorem withWord_loByte_hiByte (mk : Word → Instr) (nn : Word) (rest : List Byte) :
    withWord mk (loByte nn :: hiByte nn :: rest) = .ok (mk nn) rest := by
  simp [withWord]

/-! ## An encoding is whole: as long as a fetch of it, and decoded to its instruction (R103) -/

/-- How many bytes a fetch reads where these bytes stand: the page and the opcode decide (R103). -/
def fetchLength : List Byte → Nat
  | [] => 1
  | [b0] => if opensPage b0 then 2 else operandBytes b0 + 1
  | b0 :: b1 :: _ => if opensPage b0 then bytesAfterPage b0 b1 + 2 else operandBytes b0 + 1

/-- The bytes are what a fetch of them reads, and the decoder takes all of them for the instruction. -/
def ReadsWhole (i : Instr) (bytes : List Byte) : Prop :=
  bytes.length = fetchLength bytes ∧ ∀ rest, decode (bytes ++ rest) = .ok i rest

/-- The operand's constructors fix the opcode byte; with it the length and the decoder's path are computed. -/
theorem encode_readsWhole (i : Instr) (hwf : i.wellFormed = true) : ReadsWhole i (encode i) := by
  cases i with
  -- A register in the opcode
  | ldRegReg r r' => cases r <;> cases r' <;> exact ⟨rfl, fun _ => rfl⟩
  | ldRegImm r _ | ldRegAtHL r | ldRegAtIX r _ | ldRegAtIY r _ | ldAtHLReg r | ldAtIXReg _ r | ldAtIYReg _ r
  | addReg r | adcReg r | subReg r | sbcReg r | andReg r | orReg r | xorReg r | cpReg r | incReg r | decReg r
  | rlcReg r | rlReg r | rrcReg r | rrReg r | slaReg r | sraReg r | srlReg r | inRegC r | outCReg r =>
    cases r <;> exact ⟨rfl, fun _ => rfl⟩
  -- A register pair or a condition in the opcode
  | pushPair p | popPair p | addHLPair p | adcHLPair p | sbcHLPair p | addIXPair p | addIYPair p | incPair p
  | decPair p => cases p <;> exact ⟨rfl, fun _ => rfl⟩
  | retCond cc => cases cc <;> exact ⟨rfl, fun _ => rfl⟩
  -- A word operand
  | ldPairImm p nn | ldPairAtNN p nn => cases p <;> exact ⟨rfl, withWord_loByte_hiByte _ nn⟩
  | ldAtNNPair nn p => cases p <;> exact ⟨rfl, withWord_loByte_hiByte (.ldAtNNPair · _) nn⟩
  | jpCond cc nn | callCond cc nn => cases cc <;> exact ⟨rfl, withWord_loByte_hiByte _ nn⟩
  | ldAAtNN nn | ldAtNNA nn | ldIXImm nn | ldIYImm nn | ldHLAtNN nn | ldIXAtNN nn | ldIYAtNN nn | ldAtNNHL nn
  | ldAtNNIX nn | ldAtNNIY nn | jpImm nn | callImm nn => exact ⟨rfl, withWord_loByte_hiByte _ nn⟩
  -- A bit number or a restart address
  | bitReg | setReg | resReg | bitAtHL | setAtHL | resAtHL =>
    exact ⟨rfl, fun rest => show decodeCB (_ :: rest) = _ by simp [decodeCB, toNat_bitCode hwf]⟩
  | bitAtIX | setAtIX | resAtIX =>
    exact ⟨rfl, fun rest => show decodeXYCB .ix (_ :: _ :: rest) = _ by
      simp [decodeXYCB, forIndex, toNat_bitCode hwf]⟩
  | bitAtIY | setAtIY | resAtIY =>
    exact ⟨rfl, fun rest => show decodeXYCB .iy (_ :: _ :: rest) = _ by
      simp [decodeXYCB, forIndex, toNat_bitCode hwf]⟩
  | rst p =>
    rcases restartOk_cases hwf with rfl | rfl | rfl | rfl | rfl | rfl | rfl | rfl <;> exact ⟨rfl, fun _ => rfl⟩
  -- A fixed opcode, with no operand or with operand bytes
  | _ => exact ⟨rfl, fun _ => rfl⟩

end Sys2Proof

namespace Sys2Proof.Machine

/-! ## Fetching bytes that memory holds (R62, R74) -/

/-- The bytes stand in memory from an address on, each where a read gives the contents of memory. -/
def State.holdsAt (bytes : List Byte) (a : Word) (s : State) : Prop :=
  ∀ k < bytes.length, s.readable (a + BitVec.ofNat 16 k) ∧ s.byteAt (a + BitVec.ofNat 16 k) = bytes.getD k 0

/-- The first byte is what a read answers, with nothing changed; the others stand behind it. -/
theorem State.holdsAt_cons {v : Byte} {bytes : List Byte} {a : Word} {s : State} (h : s.holdsAt (v :: bytes) a) :
    s.read8 a = (v, s) ∧ s.holdsAt bytes (a + 1) := by
  constructor
  · obtain ⟨hread, hv⟩ := h 0 (Nat.succ_pos _)
    rw [BitVec.add_zero] at hread hv
    exact Prod.ext ((s.read8_value a hread).trans hv) (s.read8_state a hread)
  · intro k hk
    have hnext : a + 1 + BitVec.ofNat 16 k = a + BitVec.ofNat 16 (k + 1) := by
      rw [BitVec.ofNat_add, BitVec.add_assoc, BitVec.add_comm 1]; rfl
    rw [hnext]
    exact h (k + 1) (Nat.succ_lt_succ hk)

theorem State.fetchBytes_of_holdsAt {bytes : List Byte} {a : Word} {s : State} (h : s.holdsAt bytes a) :
    s.fetchBytes bytes.length a = (bytes, s) := by
  induction bytes generalizing a with
  | nil => rfl
  | cons v bytes ih =>
    obtain ⟨hread, hrest⟩ := State.holdsAt_cons h
    simp only [List.length_cons, State.fetchBytes, hread, ih hrest]

/-- How many opcode fetches R counts for these bytes (R35, R103). -/
def opcodeFetches (bytes : List Byte) : Nat := if opensPage (bytes.getD 0 0) then 2 else 1

/-- A fetch where bytes of a whole instruction stand reads these bytes, and only counts in R. -/
theorem State.fetch_of_holdsAt {bytes : List Byte} {s : State} (hlen : bytes.length = fetchLength bytes)
    (h : s.holdsAt bytes s.pc) : s.fetch = (bytes, s.countFetches (opcodeFetches bytes)) := by
  match bytes with
  | [] => cases hlen
  | b0 :: more =>
    obtain ⟨hread0, hmore⟩ := State.holdsAt_cons h
    cases hpage : opensPage b0 with
    | false =>
      have hcount : operandBytes b0 = more.length := by cases more <;> simpa [fetchLength, hpage] using hlen.symm
      have hfetch := State.fetchBytes_of_holdsAt hmore
      simp only [State.fetch, hread0, hpage, hcount, hfetch, Bool.false_eq_true, if_false, opcodeFetches,
        List.getD_cons_zero]
    | true =>
      match more with
      | [] => simp [fetchLength, hpage] at hlen
      | b1 :: more =>
        obtain ⟨hread1, hmore⟩ := State.holdsAt_cons hmore
        have hcount : bytesAfterPage b0 b1 = more.length := by simpa [fetchLength, hpage] using hlen.symm
        have hfetch : s.fetchBytes more.length (s.pc + 2) = (more, s) :=
          State.fetchBytes_of_holdsAt (BitVec.add_assoc s.pc 1 1 ▸ hmore)
        simp only [State.fetch, hread0, hread1, hpage, hcount, hfetch, if_true, opcodeFetches, List.getD_cons_zero]

/-! ## The step that runs an instruction (R422) -/

/-- The state from which the coming step fetches: the inputs sampled, the EI shadow cleared. -/
def State.atFetch (s : State) : State := { s.sample with eiShadow := false }

theorem State.stepKind_sample {s : State} (h : s.runsInstruction) : s.sample.stepKind = .instruction := by
  obtain ⟨hreset, hnmi, hint, hhalt⟩ := h
  simp_all [State.stepKind, State.nmiDue, State.intDue]

theorem step_of_fetch {s : State} {i : Instr} {rest : List Byte} (h : s.runsInstruction)
    (hdec : decode s.atFetch.fetch.1 = .ok i rest) : step s = exec i s.atFetch.fetch.2 := by
  simp only [step, State.stepKind_sample h, State.fetchInstr]
  rw [← State.atFetch, hdec]

/-- Where the step runs an instruction, no NMI is pending or arrives, so that sampling changes only the inputs. -/
theorem State.frame_atFetch {s : State} (h : s.runsInstruction) :
    changesOnly [.eiShadow, .now, .inputs] s s.atFetch := by
  obtain ⟨hreset, hnmi, hint, hhalt⟩ := h
  intro p hp
  cases p with
  | reg q => cases q <;> rfl
  | nmiPending => exact hnmi.trans (Bool.or_eq_false_iff.mp hnmi).1.symm
  | eiShadow | now | inputs => simp at hp
  | _ => rfl

/-- The count keeps bit 7 of R and counts in the other seven (R35). -/
theorem State.refreshed_countFetches (n : Nat) (s : State) : refreshed n s (s.countFetches n) := by
  have hlt := s.r.isLt
  have hr : (refreshAfter n s.r).toNat = s.r.toNat / 128 * 128 + (s.r.toNat + n) % 128 :=
    Nat.mod_eq_of_lt (by omega)
  rw [refreshed, State.countFetches_r]
  refine ⟨by omega, ?_⟩
  rw [BitVec.getLsbD, BitVec.getLsbD, hr, Nat.testBit_eq_decide_div_mod_eq, Nat.testBit_eq_decide_div_mod_eq]
  congr 2
  omega

/-- Settles O7: the bytes at PC are a whole encoding, so that the step fetches them, counts them in R and executes what
they decode to. -/
theorem stepRunsEncodedInstruction : Obligations.StepRunsEncodedInstruction := by
  unfold Obligations.StepRunsEncodedInstruction
  intro s i hwf hruns hat
  obtain ⟨hlen, hdecode⟩ := encode_readsWhole i hwf
  have hholds : s.atFetch.holdsAt (encode i) s.atFetch.pc := hat
  have hfetch := State.fetch_of_holdsAt hlen hholds
  have hdec : decode s.atFetch.fetch.1 = .ok i [] := by
    rw [hfetch, ← List.append_nil (encode i)]
    exact hdecode []
  refine ⟨s.atFetch.countFetches (opcodeFetches (encode i)), ?_, State.refreshed_countFetches _ s.atFetch,
    rfl, rfl, rfl, ?_⟩
  · rw [step_of_fetch hruns hdec, hfetch]
  · exact ((State.frame_atFetch hruns).mono (by simp)).andThen (State.frame_countFetches _ _) (by simp)

end Sys2Proof.Machine
end

section
/-!
PROOF of O25: what an access does at an address of each kind, from the equation of a read at that kind and the laws of a
write.
-/

namespace Sys2Proof.Machine

/-! ## A read where memory does not answer (R60, R76) -/

theorem State.read8_of_absent {s : State} {a : Word} (h : s.kindAt a = .absent) : s.read8 a = s.anyByte := by
  simp only [State.read8, h]

theorem State.read8_of_device {s : State} {a : Word} (h : s.kindAt a = .device) :
    s.read8 a = (Config.deviceRead a s.trace, s.record (.memRead a (Config.deviceRead a s.trace))) := by
  simp only [State.read8, h]

/-! ## A write -/

theorem State.landed_write8 (s : State) (a : Word) (v : Byte) : landed a v s (s.write8 a v) := by
  simp only [landed, State.byteAt_write8, true_and]

theorem State.trace_write8_of_device {s : State} {a : Word} (v : Byte) (h : s.kindAt a = .device) :
    (s.write8 a v).trace = s.trace ++ [.memWrite a v] := by
  simp only [State.trace_write8, writeEvents, h, if_true]

theorem State.trace_write8_of_not_device {s : State} {a : Word} (v : Byte) (h : s.kindAt a ≠ .device) :
    (s.write8 a v).trace = s.trace := by
  simp only [State.trace_write8, writeEvents, h, if_false, List.append_nil]

/-- Settles O25, one clause a kind of address. -/
theorem memoryAccessByKind : Obligations.MemoryAccessByKind := by
  unfold Obligations.MemoryAccessByKind
  intro s a v
  refine ⟨fun h => ⟨s.read8_value a h, s.read8_state a h⟩, fun h => ?_, fun h => ?_, s.landed_write8 a v,
    s.frame_write8 a v, State.trace_write8_of_not_device v⟩
  · rw [State.read8_of_absent h]
    exact s.frame_anyByte
  · rw [State.read8_of_device h]
    exact ⟨rfl, s.frame_record _, State.trace_write8_of_device v h⟩

end Sys2Proof.Machine
end

section
/-!
PROOF of O19 and O20: how far an instruction, and a step, reaches out of the CPU.

One relation says it (`ReachesAtMost`): the memory map is kept, bytes change in RAM alone and only where storing is
allowed, and the trace grows by device accesses and, where input and output are allowed, by port accesses. It holds of
the four accesses to memory and ports and of every operation whose frame stays inside the CPU, and it composes, so that
one pass over the instructions gives O20, and with the other kinds of step O19.
-/

namespace Sys2Proof.Machine

/-! ## The relation -/

/-- An access to a memory-mapped device, and none to a port. -/
def BusEvent.atMemory (e : BusEvent) : Prop := ∃ a v, e = .memRead a v ∨ e = .memWrite a v

/-- What may differ outside the CPU between the state `s` and a later state `t`, where `stores` and `io` say whether
stores to memory and accesses to ports are allowed between them. -/
structure ReachesAtMost (stores io : Bool) (s t : State) : Prop where
  memMap : t.memMap = s.memMap
  bytes : ∀ a : Word, t.byteAt a = s.byteAt a ∨ stores = true ∧ s.kindAt a = .ram
  trace : ∃ events, t.trace = s.trace ++ events ∧ (io = false → ∀ e ∈ events, BusEvent.atMemory e)

/-- A piece that is neither memory, nor the memory map, nor the trace. -/
def Piece.inCpu : Piece → Bool
  | .byte _ | .memMap | .trace => false
  | _ => true

theorem WordReg.pieces_inCpu (w : WordReg) : w.pieces.all Piece.inCpu = true := by
  cases w with
  | dd p => cases p <;> rfl
  | qq q => cases q <;> rfl
  | ix | iy => rfl

namespace ReachesAtMost
section
variable {stores io : Bool} {s t u : State}

theorem ofEq (hmap : t.memMap = s.memMap) (hmem : t.mem = s.mem) (htrace : t.trace = s.trace) :
    ReachesAtMost stores io s t where
  memMap := hmap
  bytes a := .inl (congrArg (Memory.read a.toNat) hmem)
  trace := ⟨[], by rw [htrace, List.append_nil], fun _ => by simp⟩

theorem refl : ReachesAtMost stores io s s := ofEq rfl rfl rfl

theorem trans (h : ReachesAtMost stores io s t) (h' : ReachesAtMost stores io t u) :
    ReachesAtMost stores io s u where
  memMap := h'.memMap.trans h.memMap
  bytes a := by
    rcases h'.bytes a with hbyte | ⟨hstores, hram⟩
    · rw [hbyte]
      exact h.bytes a
    · exact .inr ⟨hstores, State.kindAt_of_memMap a h.memMap ▸ hram⟩
  trace := by
    obtain ⟨events, htrace, hmem⟩ := h.trace
    obtain ⟨events', htrace', hmem'⟩ := h'.trace
    refine ⟨events ++ events', by rw [htrace', htrace, List.append_assoc], fun hio e he => ?_⟩
    exact (List.mem_append.mp he).elim (hmem hio e) (hmem' hio e)

/-- An operation whose frame lists only pieces inside the CPU. -/
theorem ofFrame {ps : List Piece} (h : changesOnly ps s t) (hps : ps.all Piece.inCpu = true := by rfl) :
    ReachesAtMost stores io s t := by
  have kept : ∀ p : Piece, p.inCpu = false → p.same s t := fun p hp =>
    h p fun hmem => by simp [List.all_eq_true.mp hps p hmem] at hp
  exact {
    memMap := kept .memMap rfl
    bytes := fun a => .inl (kept (.byte a) rfl)
    trace := ⟨[], by rw [show t.trace = s.trace from kept .trace rfl, List.append_nil], fun _ => by simp⟩ }

/-- The same, after what `h` allows. -/
theorem andThen {ps : List Piece} (h : ReachesAtMost stores io s t) (h' : changesOnly ps t u)
    (hps : ps.all Piece.inCpu = true := by rfl) : ReachesAtMost stores io s u := h.trans (ofFrame h' hps)

end
end ReachesAtMost

/-! ## The accesses to memory and ports -/

section
variable {stores io : Bool} (s : State)

theorem State.reaches_read8 (a : Word) : ReachesAtMost stores io s (s.read8 a).2 where
  memMap := s.read8_memMap a
  bytes b := .inl (s.read8_byteAt b a)
  trace := by
    refine ⟨readEvents a s, s.trace_read8 a, fun _ e he => ?_⟩
    simp only [readEvents, readEventsAfter, List.mem_ite_nil_right, List.mem_singleton] at he
    exact ⟨_, _, .inl he.2⟩

theorem State.reaches_write8 (a : Word) (v : Byte) : ReachesAtMost true io s (s.write8 a v) where
  memMap := s.write8_memMap a v
  bytes b := by
    rw [State.byteAt_write8]
    split
    case isTrue h => exact .inr ⟨rfl, h.1 ▸ h.2⟩
    case isFalse => exact .inl rfl
  trace := by
    refine ⟨writeEvents a v s, s.trace_write8 a v, fun _ e he => ?_⟩
    simp only [writeEvents, List.mem_ite_nil_right, List.mem_singleton] at he
    exact ⟨_, _, .inr he.2⟩

theorem State.reaches_portIn (port : Word) : ReachesAtMost stores true s (s.portIn port).2 where
  memMap := s.portIn_memMap port
  bytes a := .inl (s.portIn_byteAt a port)
  trace := ⟨_, s.portIn_trace port, nofun⟩

theorem State.reaches_portOut (port : Word) (v : Byte) : ReachesAtMost stores true s (s.portOut port v) where
  memMap := s.portOut_memMap port v
  bytes a := .inl (s.portOut_byteAt a port v)
  trace := ⟨_, s.portOut_trace port v, nofun⟩

/-! ## The operations made of them -/

theorem State.reaches_read16 (a : Word) : ReachesAtMost stores io s (s.read16 a).2 :=
  (s.reaches_read8 a).trans (State.reaches_read8 _ _)

theorem State.reaches_write16 (a v : Word) : ReachesAtMost true io s (s.write16 a v) :=
  (s.reaches_write8 a _).trans (State.reaches_write8 _ _ _)

theorem State.reaches_push16 (v : Word) : ReachesAtMost true io s (s.push16 v) :=
  ((s.reaches_write8 _ _).trans (State.reaches_write8 _ _ _)).andThen (State.frame_setSP _ _)

theorem State.reaches_pop16 : ReachesAtMost stores io s s.pop16.2 :=
  (s.reaches_read16 s.sp).andThen (State.frame_setSP _ _)

theorem State.reaches_callTo (target returnTo : Word) : ReachesAtMost true io s (s.callTo target returnTo) :=
  (s.reaches_push16 returnTo).andThen (State.frame_jumpTo _ _)

theorem State.reaches_returnPop : ReachesAtMost stores io s s.returnPop :=
  s.reaches_pop16.andThen (State.frame_jumpTo _ _)

theorem State.reaches_fetchBytes (n : Nat) (a : Word) : ReachesAtMost stores io s (s.fetchBytes n a).2 := by
  induction n generalizing a s with
  | zero => exact .refl
  | succ n ih => exact (s.reaches_read8 a).trans (ih _ _)

theorem State.reaches_fetch : ReachesAtMost stores io s s.fetch.2 := by
  simp only [State.fetch]
  split
  · exact (((s.reaches_read8 _).trans (State.reaches_read8 _ _)).trans (State.reaches_fetchBytes _ _ _)).andThen
      (State.frame_countFetches _ _)
  · exact ((s.reaches_read8 _).trans (State.reaches_fetchBytes _ _ _)).andThen (State.frame_countFetches _ _)

/-! ## The shapes of the instruction families -/

variable {ps : List Piece}

theorem State.reaches_useAt {op : Byte → State → State} (h : ∀ v t, changesOnly ps t (op v t)) (a : Word)
    (hps : ps.all Piece.inCpu = true := by rfl) : ReachesAtMost stores io s (s.useAt a op) :=
  (s.reaches_read8 a).andThen (h _ _) hps

theorem State.reaches_loadRegAt (q : Reg8) (a : Word) : ReachesAtMost stores io s (s.loadRegAt q a) :=
  s.reaches_useAt (fun v t => t.frame_setReg8 q v) a

theorem State.reaches_updateAt {op : Byte → State → Byte × State} (h : ∀ v t, changesOnly ps t (op v t).2)
    (a : Word) (hps : ps.all Piece.inCpu = true := by rfl) : ReachesAtMost true io s (s.updateAt a op) :=
  ((s.reaches_read8 a).andThen (h _ _) hps).trans (State.reaches_write8 _ _ _)

theorem State.reaches_load16At {put : Word → State → State} (h : ∀ w t, changesOnly ps t (put w t)) (a : Word)
    (hps : ps.all Piece.inCpu = true := by rfl) : ReachesAtMost stores io s (s.load16At a put) :=
  (s.reaches_read16 a).andThen (h _ _) hps

theorem State.reaches_popInto {put : Word → State → State} (h : ∀ w t, changesOnly ps t (put w t))
    (hps : ps.all Piece.inCpu = true := by rfl) : ReachesAtMost stores io s (s.popInto put) :=
  s.reaches_pop16.andThen (h _ _) hps

theorem State.reaches_exchangeTop {put : Word → State → State} (h : ∀ w t, changesOnly ps t (put w t)) (old : Word)
    (hps : ps.all Piece.inCpu = true := by rfl) : ReachesAtMost true io s (s.exchangeTop old put) :=
  (((s.reaches_read16 s.sp).trans (State.reaches_write8 _ _ _)).trans (State.reaches_write8 _ _ _)).andThen
    (h _ _) hps

theorem State.reaches_blockLoad (delta : Word) : ReachesAtMost true io s (s.blockLoad delta) :=
  (((((s.reaches_read8 s.hl).trans (State.reaches_write8 _ _ _)).andThen (State.frame_setDE _ _)).andThen
    (State.frame_setHL _ _)).andThen (State.frame_setBC _ _)).andThen (State.frame_writeFlags _ _)

theorem State.reaches_blockCompare (delta : Word) : ReachesAtMost stores io s (s.blockCompare delta) :=
  (((s.reaches_read8 s.hl).andThen (State.frame_setHL _ _)).andThen (State.frame_setBC _ _)).andThen
    (State.frame_writeFlags _ _)

theorem State.reaches_blockIn (delta : Word) : ReachesAtMost true true s (s.blockIn delta) :=
  ((((s.reaches_portIn s.bc).trans (State.reaches_write8 _ _ _)).andThen (State.frame_setB _ _)).andThen
    (State.frame_setHL _ _)).andThen (State.frame_blockIoFlags _)

theorem State.reaches_blockOut (delta : Word) : ReachesAtMost stores true s (s.blockOut delta) :=
  ((((s.reaches_read8 s.hl).andThen (State.frame_setB _ _)).trans (State.reaches_portOut _ _ _)).andThen
    (State.frame_setHL _ _)).andThen (State.frame_blockIoFlags _)

end

/-! ## Every instruction -/

/-- Where the result is a next state, it is within the bounds. -/
def ResultReaches (stores io : Bool) (s : State) (x : Result) : Prop := ∀ t, x = .next t → ReachesAtMost stores io s t

namespace ResultReaches
section
variable {stores io : Bool} {s u : State}

theorem next (h : ReachesAtMost stores io s u) : ResultReaches stores io s (.next u) := by
  intro t ht
  cases ht
  exact h

theorem refused (why : Refusal) : ResultReaches stores io s (.refused why) := by
  intro t ht
  cases ht

/-- An operation, then `advance`. -/
theorem advance {k : Word} (h : ReachesAtMost stores io s u) : ResultReaches stores io s (.next (u.advance k)) :=
  .next (h.andThen (u.frame_advance k))

/-- An operation inside the CPU, then `advance`. -/
theorem inCpu {ps : List Piece} {k : Word} (h : changesOnly ps s u) (hps : ps.all Piece.inCpu = true := by rfl) :
    ResultReaches stores io s (.next (u.advance k)) := .advance (.ofFrame h hps)

end
end ResultReaches

theorem exec_reaches (i : Instr) (s : State) : ResultReaches (storesMemory i) (isIo i) s (exec i s) := by
  cases i with
  -- 8-bit loads
  | ldRegReg q _ | ldRegImm q _ => exact .inCpu (s.frame_setReg8 q _)
  | ldRegAtHL q | ldRegAtIX q _ | ldRegAtIY q _ => exact .advance (s.reaches_loadRegAt q _)
  | ldAAtBC | ldAAtDE | ldAAtNN _ => exact .advance (s.reaches_loadRegAt .a _)
  | ldAtHLReg _ | ldAtIXReg _ _ | ldAtIYReg _ _ | ldAtHLImm _ | ldAtIXImm _ _ | ldAtIYImm _ _
  | ldAtBCA | ldAtDEA | ldAtNNA _ => exact .advance (s.reaches_write8 _ _)
  | ldAI | ldAR => exact .inCpu (s.frame_loadAFromSpecial _)
  | ldIA | ldRA => exact .next (.ofEq rfl rfl rfl)
  -- 16-bit loads, PUSH and POP
  | ldPairImm p _ => exact .inCpu (s.frame_setPairDD p _) (WordReg.pieces_inCpu _)
  | ldIXImm _ => exact .inCpu (s.frame_setIX _)
  | ldIYImm _ => exact .inCpu (s.frame_setIY _)
  | ldHLAtNN _ => exact .advance (s.reaches_load16At (fun w t => t.frame_setHL w) _)
  | ldPairAtNN p _ =>
    exact .advance (s.reaches_load16At (fun w t => t.frame_setPairDD p w) _ (WordReg.pieces_inCpu _))
  | ldIXAtNN _ => exact .advance (s.reaches_load16At (fun w t => t.frame_setIX w) _)
  | ldIYAtNN _ => exact .advance (s.reaches_load16At (fun w t => t.frame_setIY w) _)
  | ldAtNNHL _ | ldAtNNPair _ _ | ldAtNNIX _ | ldAtNNIY _ => exact .advance (s.reaches_write16 _ _)
  | ldSPHL | ldSPIX | ldSPIY => exact .inCpu (s.frame_setSP _)
  | pushPair _ | pushIX | pushIY => exact .advance (s.reaches_push16 _)
  | popPair q => exact .advance (s.reaches_popInto (fun w t => t.frame_setPairQQ q w) (WordReg.pieces_inCpu _))
  | popIX => exact .advance (s.reaches_popInto fun w t => t.frame_setIX w)
  | popIY => exact .advance (s.reaches_popInto fun w t => t.frame_setIY w)
  -- Exchange, block transfer, block search
  | exDEHL | exAFAF | exx => exact .next (.ofEq rfl rfl rfl)
  | exAtSPHL => exact .advance (s.reaches_exchangeTop (fun w t => t.frame_setHL w) _)
  | exAtSPIX => exact .advance (s.reaches_exchangeTop (fun w t => t.frame_setIX w) _)
  | exAtSPIY => exact .advance (s.reaches_exchangeTop (fun w t => t.frame_setIY w) _)
  | ldi | ldd => exact .advance (s.reaches_blockLoad _)
  | ldir | lddr => exact .next ((s.reaches_blockLoad _).andThen (State.frame_repeatWhile _ _))
  | cpi | cpd => exact .advance (s.reaches_blockCompare _)
  | cpir | cpdr => exact .next ((s.reaches_blockCompare _).andThen (State.frame_repeatWhile _ _))
  -- 8-bit arithmetic and logic
  | addReg _ | addImm _ => exact .inCpu (s.frame_opAdd _)
  | adcReg _ | adcImm _ => exact .inCpu (s.frame_opAdc _)
  | subReg _ | subImm _ => exact .inCpu (s.frame_opSub _)
  | sbcReg _ | sbcImm _ => exact .inCpu (s.frame_opSbc _)
  | andReg _ | andImm _ => exact .inCpu (s.frame_opAnd _)
  | orReg _ | orImm _ => exact .inCpu (s.frame_opOr _)
  | xorReg _ | xorImm _ => exact .inCpu (s.frame_opXor _)
  | cpReg _ | cpImm _ => exact .inCpu (s.frame_opCp _)
  | addAtHL | addAtIX _ | addAtIY _ => exact .advance (s.reaches_useAt (fun v t => t.frame_opAdd v) _)
  | adcAtHL | adcAtIX _ | adcAtIY _ => exact .advance (s.reaches_useAt (fun v t => t.frame_opAdc v) _)
  | subAtHL | subAtIX _ | subAtIY _ => exact .advance (s.reaches_useAt (fun v t => t.frame_opSub v) _)
  | sbcAtHL | sbcAtIX _ | sbcAtIY _ => exact .advance (s.reaches_useAt (fun v t => t.frame_opSbc v) _)
  | andAtHL | andAtIX _ | andAtIY _ => exact .advance (s.reaches_useAt (fun v t => t.frame_opAnd v) _)
  | orAtHL | orAtIX _ | orAtIY _ => exact .advance (s.reaches_useAt (fun v t => t.frame_opOr v) _)
  | xorAtHL | xorAtIX _ | xorAtIY _ => exact .advance (s.reaches_useAt (fun v t => t.frame_opXor v) _)
  | cpAtHL | cpAtIX _ | cpAtIY _ => exact .advance (s.reaches_useAt (fun v t => t.frame_opCp v) _)
  | incReg q => exact .inCpu (s.frame_updateReg (fun v t => frame_incByte t v) q)
  | decReg q => exact .inCpu (s.frame_updateReg (fun v t => frame_decByte t v) q)
  | incAtHL | incAtIX _ | incAtIY _ => exact .advance (s.reaches_updateAt (fun v t => frame_incByte t v) _)
  | decAtHL | decAtIX _ | decAtIY _ => exact .advance (s.reaches_updateAt (fun v t => frame_decByte t v) _)
  -- General arithmetic and CPU control
  | daa | cpl | neg => exact .advance (.andThen (.ofFrame (s.frame_setA _)) (State.frame_writeFlags _ _))
  | ccf | scf => exact .inCpu (s.frame_writeCarry _ _)
  | nop | halt | di | ei | im0 | im1 | im2 => exact .next (.ofEq rfl rfl rfl)
  -- 16-bit arithmetic
  | addHLPair _ => exact .advance (.andThen (.ofFrame (s.frame_setHL _)) (State.frame_add16Flags _ _))
  | adcHLPair _ | sbcHLPair _ =>
    exact .advance (.andThen (.ofFrame (s.frame_setHL _)) (State.frame_carry16Flags _ _ _))
  | addIXPair _ => exact .advance (.andThen (.ofFrame (s.frame_setIX _)) (State.frame_add16Flags _ _))
  | addIYPair _ => exact .advance (.andThen (.ofFrame (s.frame_setIY _)) (State.frame_add16Flags _ _))
  | incPair p | decPair p => exact .inCpu (s.frame_setPairDD p _) (WordReg.pieces_inCpu _)
  | incIX | decIX => exact .inCpu (s.frame_setIX _)
  | incIY | decIY => exact .inCpu (s.frame_setIY _)
  -- Rotate and shift
  | rlca | rla | rrca | rra => exact .inCpu (s.frame_rotateA _)
  | rlcReg q | rlReg q | rrcReg q | rrReg q | slaReg q | sraReg q | srlReg q =>
    exact .inCpu (s.frame_updateReg (fun v t => frame_rotateByte t _ v) q)
  | rlcAtHL | rlcAtIX _ | rlcAtIY _ | rlAtHL | rlAtIX _ | rlAtIY _ | rrcAtHL | rrcAtIX _ | rrcAtIY _
  | rrAtHL | rrAtIX _ | rrAtIY _ | slaAtHL | slaAtIX _ | slaAtIY _ | sraAtHL | sraAtIX _ | sraAtIY _
  | srlAtHL | srlAtIX _ | srlAtIY _ => exact .advance (s.reaches_updateAt (fun v t => frame_rotateByte t _ v) _)
  | rld | rrd =>
    exact .advance (((s.reaches_read8 s.hl).trans (State.reaches_write8 _ s.hl _)).andThen
      (State.frame_setAWithByteFlags _ _))
  -- Bit set, reset and test
  | bitReg b _ => exact .inCpu (s.frame_testBit b _)
  | bitAtHL b | bitAtIX b _ | bitAtIY b _ => exact .advance (s.reaches_useAt (fun v t => t.frame_testBit b v) _)
  | setReg b q => exact .inCpu (s.frame_updateReg (fun v t => frame_setBitByte t b v) q)
  | resReg b q => exact .inCpu (s.frame_updateReg (fun v t => frame_resBitByte t b v) q)
  | setAtHL b | setAtIX b _ | setAtIY b _ =>
    exact .advance (s.reaches_updateAt (fun v t => frame_setBitByte t b v) _)
  | resAtHL b | resAtIX b _ | resAtIY b _ =>
    exact .advance (s.reaches_updateAt (fun v t => frame_resBitByte t b v) _)
  -- Jumps
  | jpImm _ | jpHL | jpIX | jpIY => exact .next (.ofFrame (s.frame_jumpTo _))
  | jpCond cc nn =>
    exact .next (by
      split
      · exact .ofFrame (s.frame_jumpTo nn)
      · exact .ofFrame (s.frame_advance 3))
  | jr _ | jrC _ | jrNC _ | jrZ _ | jrNZ _ => exact .next (.ofFrame (s.frame_jumpRelative _ _))
  | djnz _ => exact .next (.andThen (.ofFrame (s.frame_setB _)) (State.frame_jumpRelative _ _ _))
  -- Call and return
  | callImm _ | rst _ => exact .next (s.reaches_callTo _ _)
  | callCond cc nn =>
    exact .next (by
      split
      · exact s.reaches_callTo nn _
      · exact .ofFrame (s.frame_advance 3))
  | ret | reti => exact .next s.reaches_returnPop
  | retn => exact .next (s.reaches_returnPop.trans (.ofEq rfl rfl rfl))
  | retCond cc =>
    exact .next (by
      split
      · exact s.reaches_returnPop
      · exact .ofFrame (s.frame_advance 1))
  -- Input and output
  | inAImm _ => exact .advance ((s.reaches_portIn _).andThen (State.frame_setA _ _))
  | inRegC q =>
    exact .advance (((s.reaches_portIn _).andThen (State.frame_setReg8 _ q _)).andThen (State.frame_writeFlags _ _))
  | ini | ind => exact .advance (s.reaches_blockIn _)
  | inir | indr => exact .next ((s.reaches_blockIn _).andThen (State.frame_repeatWhileB _))
  | outImmA _ | outCReg _ => exact .advance (s.reaches_portOut _ _)
  | outi | outd => exact .advance (s.reaches_blockOut _)
  | otir | otdr => exact .next ((s.reaches_blockOut _).andThen (State.frame_repeatWhileB _))

/-- Settles O20: an instruction reaches at most as far as `storesMemory` and `isIo` say. -/
theorem onlyStoresAndIoReachOut : Obligations.OnlyStoresAndIoReachOut := by
  unfold Obligations.OnlyStoresAndIoReachOut
  intro i s t ht
  obtain ⟨-, hbytes, htrace⟩ := exec_reaches i s t ht
  exact ⟨fun hstores a => (hbytes a).resolve_right fun h => by simp [hstores] at h, htrace⟩

/-! ## Every step -/

theorem ReachesAtMost.allowAll {stores io : Bool} {s t : State} (h : ReachesAtMost stores io s t) :
    ReachesAtMost true true s t where
  memMap := h.memMap
  bytes a := (h.bytes a).imp_right fun hram => ⟨rfl, hram.2⟩
  trace := h.trace.imp fun _ hev => ⟨hev.1, nofun⟩

theorem State.reaches_enterHandler {io : Bool} (s : State) (target : Word) :
    ReachesAtMost true io s (s.enterHandler target) := s.reaches_callTo target s.pc

theorem State.reaches_enterMode2 {io : Bool} (s : State) : ReachesAtMost true io s s.enterMode2 :=
  ((s.reaches_push16 s.pc).trans (State.reaches_read16 _ _)).andThen (State.frame_jumpTo _ _)

theorem State.reaches_acceptNmi {io : Bool} (s : State) : ReachesAtMost true io s s.acceptNmi := by
  refine .trans (.ofEq ?_ ?_ ?_) (State.reaches_enterHandler _ _) <;> rfl

theorem State.reaches_acceptInt {io : Bool} (s : State) : ResultReaches true io s s.acceptInt := by
  have start : ReachesAtMost true io s s.acknowledgeInt := .ofEq rfl rfl rfl
  simp only [State.acceptInt]
  cases s.acknowledgeInt.im with
  | im0 =>
    dsimp only
    split
    · exact .next (start.trans (State.reaches_enterHandler _ _))
    · exact .refused _
  | im1 => exact .next (start.trans (State.reaches_enterHandler _ _))
  | im2 => exact .next (start.trans (State.reaches_enterMode2 _))

theorem step_reaches (s : State) : ResultReaches true true s (step s) := by
  have start : ReachesAtMost true true s s.sample := .ofFrame s.frame_sample
  simp only [step]
  cases s.sample.stepKind with
  | reset =>
    have cleared : ReachesAtMost true true s.sample s.sample.resetCpu := .ofEq rfl rfl rfl
    exact .next (start.trans cleared)
  | nmi => exact .next (start.trans s.sample.reaches_acceptNmi)
  | int => exact fun t ht => start.trans (s.sample.reaches_acceptInt t ht)
  | haltedTick => exact .next (start.andThen (State.frame_countFetches _ _))
  | instruction =>
    have cleared : ReachesAtMost true true s.sample s.atFetch := .ofEq rfl rfl rfl
    have fetched : ReachesAtMost true true s s.sample.fetchInstr.2 :=
      (start.trans cleared).trans s.atFetch.reaches_fetch
    dsimp only
    split
    case h_1 i _ u hfetch =>
      rw [hfetch] at fetched
      exact fun t ht => fetched.trans (exec_reaches i u t ht).allowAll
    case h_2 => exact .refused _

/-- Settles O19: whatever a step is, it stores at most in RAM. -/
theorem stepChangesOnlyRam : Obligations.StepChangesOnlyRam := by
  unfold Obligations.StepChangesOnlyRam
  intro s t ht
  obtain ⟨hmap, hbytes, -⟩ := step_reaches s t ht
  exact ⟨hmap, fun a hram => (hbytes a).resolve_right fun h => hram h.2⟩

end Sys2Proof.Machine
end

section
/-!
PROOF of O34: what is pushed is popped.

Every first half leaves a word on top of the stack (`State.onTop`): a push and a call by `State.onTop_push16`, the
acceptance of an interrupt because it ends in a call or, in mode 2, reads the vector table after the push. Every second
half is a pop that finds it there (`State.onTop.pop16`).
-/

namespace Sys2Proof.Machine

/-! ## A word on top of the stack -/

/-- The word `w` stands in RAM right below `sp`, and SP points to it (R63). -/
structure State.onTop (w sp : Word) (t : State) : Prop where
  sp_eq : t.sp = sp - 2
  lowRam : t.kindAt (sp - 2) = .ram
  highRam : t.kindAt (sp - 1) = .ram
  low : t.byteAt (sp - 2) = loByte w
  high : t.byteAt (sp - 1) = hiByte w

theorem State.onTop_push16 {s : State} (hhigh : s.kindAt (s.sp - 1) = .ram) (hlow : s.kindAt (s.sp - 2) = .ram)
    (w : Word) : (s.push16 w).onTop w s.sp where
  sp_eq := s.push16_sp w
  lowRam := (s.push16_kindAt _ w).trans hlow
  highRam := (s.push16_kindAt _ w).trans hhigh
  low := by rw [State.byteAt_push16, if_pos ⟨rfl, hlow⟩]
  high := by
    have hne : s.sp - 1 ≠ s.sp - 2 := by bv_omega
    rw [State.byteAt_push16, if_neg fun h => hne h.1, if_pos ⟨rfl, hhigh⟩]

namespace State.onTop
variable {w sp : Word} {t u : State}

/-- The word stays on top where only PC, the trace and the free values change. -/
theorem ofFrame {ps : List Piece} (h : t.onTop w sp) (hf : changesOnly ps t u)
    (hps : ps ⊆ [.pc, .trace, .draws] := by simp) : u.onTop w sp := by
  have hf := hf.mono hps
  have hkind : ∀ a, u.kindAt a = t.kindAt a := fun a => State.kindAt_of_memMap a (hf .memMap (by simp))
  have hbyte : ∀ a, u.byteAt a = t.byteAt a := fun a => hf (.byte a) (by simp)
  exact {
    sp_eq := Eq.trans (hf .sp (by simp)) h.sp_eq
    lowRam := (hkind _).trans h.lowRam
    highRam := (hkind _).trans h.highRam
    low := (hbyte _).trans h.low
    high := (hbyte _).trans h.high }

/-- A pop gives the word, and SP as before the push. -/
theorem pop16 (h : t.onTop w sp) : t.pop16 = (w, t.setSP sp) := by
  have hnext : sp - 2 + 1 = sp - 1 := by bv_omega
  have hback : sp - 2 + 2 = sp := BitVec.sub_add_cancel sp 2
  have hread := t.read16_value (sp - 2) (.inl h.lowRam) (.inl (hnext ▸ h.highRam))
  rw [hnext, h.low, h.high, joinBytes_hi_lo] at hread
  simp only [State.pop16, h.sp_eq, hread, hback]
  rfl

theorem popInto (h : t.onTop w sp) (put : Word → State → State) : t.popInto put = put w (t.setSP sp) := by
  simp only [State.popInto, h.pop16]

theorem pc_returnPop (h : t.onTop w sp) : t.returnPop.pc = w := by
  rw [State.returnPop_pc, h.pop16]

theorem sp_returnPop (h : t.onTop w sp) : t.returnPop.sp = sp := by
  rw [State.returnPop, h.pop16]
  rfl

end State.onTop

/-! ## Pops and returns take the word (R177 to R179, R364 to R367) -/

theorem State.pairQQ_advance (t : State) (q : PairQQ) (k : Word) : (t.advance k).pairQQ q = t.pairQQ q := by
  cases q <;> rfl

/-- Each pop takes the word from the top. -/
theorem exec_pop_of_onTop {w sp : Word} {t : State} (h : t.onTop w sp) (q : PairQQ) :
    ∀ y ∈ [(Instr.popPair q, WordReg.qq q), (.popIX, .ix), (.popIY, .iy)],
      ∃ u, exec y.1 t = .next u ∧ y.2.value u = w ∧ u.sp = sp := by
  simp only [List.forall_mem_cons]
  refine ⟨⟨_, rfl, ?_⟩, ⟨_, rfl, ?_⟩, ⟨_, rfl, ?_⟩, by simp⟩
  all_goals rw [h.popInto]
  · exact ⟨(State.pairQQ_advance _ q 1).trans (State.pairQQ_setPairQQ _ q w), by simp⟩
  · exact ⟨rfl, rfl⟩
  · exact ⟨rfl, rfl⟩

theorem State.cond_eq_conditionMet (cc : Cond) (t : State) : t.cond cc = conditionMet cc t := by
  cases cc <;> simp [State.cond, conditionMet, State.flags, flagBits]

/-- Each return that is taken goes to the word on top. -/
theorem exec_return_of_onTop {w sp : Word} {t : State} (h : t.onTop w sp) (cc : Cond) :
    ∀ y ∈ [Instr.ret, .reti, .retn] ++ (if conditionMet cc t = true then [Instr.retCond cc] else []),
      ∃ u, exec y t = .next u ∧ u.pc = w ∧ u.sp = sp := by
  have returned : t.returnPop.pc = w ∧ t.returnPop.sp = sp := ⟨h.pc_returnPop, h.sp_returnPop⟩
  have hcond : ∀ y ∈ (if conditionMet cc t = true then [Instr.retCond cc] else []),
      ∃ u, exec y t = .next u ∧ u.pc = w ∧ u.sp = sp := by
    intro y hy
    obtain ⟨hmet, hy⟩ := List.mem_ite_nil_right.mp hy
    cases List.mem_singleton.mp hy
    have htaken : exec (.retCond cc) t = .next t.returnPop := by
      show execRetCond cc t = _
      simp only [execRetCond, State.cond_eq_conditionMet, hmet, if_true]
    exact ⟨_, htaken, returned⟩
  simp only [List.cons_append, List.nil_append, List.forall_mem_cons]
  exact ⟨⟨_, rfl, returned⟩, ⟨_, rfl, returned⟩, ⟨_, rfl, returned⟩, hcond⟩

/-! ## Pushes and calls leave the word (R174 to R176, R362, R363, R368) -/

section
variable {s : State} (hhigh : s.kindAt (s.sp - 1) = .ram) (hlow : s.kindAt (s.sp - 2) = .ram)
include hhigh hlow

/-- Each push leaves its word on top. -/
theorem exec_push_onTop (q : PairQQ) :
    ∀ x ∈ [(Instr.pushPair q, s.pairQQ q), (.pushIX, s.ix), (.pushIY, s.iy)],
      ∃ t, exec x.1 s = .next t ∧ t.onTop x.2 s.sp := by
  have pushed : ∀ w k : Word, ((s.push16 w).advance k).onTop w s.sp := fun w k =>
    (State.onTop_push16 hhigh hlow w).ofFrame (State.frame_advance _ k)
  simp only [List.forall_mem_cons]
  exact ⟨⟨_, rfl, pushed _ 1⟩, ⟨_, rfl, pushed _ 2⟩, ⟨_, rfl, pushed _ 2⟩, by simp⟩

theorem State.onTop_callTo (target w : Word) : (s.callTo target w).onTop w s.sp :=
  (State.onTop_push16 hhigh hlow w).ofFrame (State.frame_jumpTo _ _)

/-- Each call that is taken leaves the address behind it on top, and no flag changes. -/
theorem exec_call_onTop (cc : Cond) (nn : Word) (p : Byte) :
    ∀ x ∈ [(Instr.callImm nn, s.pc + 3), (.rst p, s.pc + 1)] ++
        (if conditionMet cc s = true then [(Instr.callCond cc nn, s.pc + 3)] else []),
      ∃ t, exec x.1 s = .next t ∧ t.onTop x.2 s.sp ∧ t.f = s.f := by
  have called : ∀ target w : Word, (s.callTo target w).onTop w s.sp ∧ (s.callTo target w).f = s.f :=
    fun target w => ⟨State.onTop_callTo hhigh hlow target w, s.callTo_f target w⟩
  have hcond : ∀ x ∈ (if conditionMet cc s = true then [(Instr.callCond cc nn, s.pc + 3)] else []),
      ∃ t, exec x.1 s = .next t ∧ t.onTop x.2 s.sp ∧ t.f = s.f := by
    intro x hx
    obtain ⟨hmet, hx⟩ := List.mem_ite_nil_right.mp hx
    cases List.mem_singleton.mp hx
    have htaken : exec (.callCond cc nn) s = .next (s.callTo nn (s.pc + 3)) := by
      show execCallCond cc nn s = _
      simp only [execCallCond, State.cond_eq_conditionMet, hmet, if_true]
      rfl
    exact ⟨_, htaken, called _ _⟩
  simp only [List.cons_append, List.nil_append, List.forall_mem_cons]
  exact ⟨⟨_, rfl, called _ _⟩, ⟨_, rfl, called _ _⟩, hcond⟩

/-! ## Interrupts (R424 to R428) -/

theorem State.onTop_enterHandler (target : Word) : (s.enterHandler target).onTop s.pc s.sp :=
  State.onTop_callTo hhigh hlow target s.pc

/-- The vector table is read after the push. -/
theorem State.onTop_enterMode2 : s.enterMode2.onTop s.pc s.sp :=
  ((State.onTop_push16 hhigh hlow s.pc).ofFrame (State.frame_read16 _ _)).ofFrame (State.frame_jumpTo _ _)

theorem State.onTop_acceptNmi : s.acceptNmi.onTop s.pc s.sp :=
  State.onTop_enterHandler
    (s := { s.countFetches 1 with nmiPending := false, halted := false, eiShadow := false, iff1 := false })
    hhigh hlow 0x0066

/-- An acceptance that is not refused leaves PC on top and both flip-flops cleared. -/
theorem State.onTop_acceptInt (hmode : s.im ≠ .im0 ∨ isRstByte s.now.busByte = true) :
    ∃ t, s.acceptInt = .next t ∧ t.onTop s.pc s.sp ∧ t.iff1 = false ∧ t.iff2 = false := by
  have handled : ∀ target : Word,
      (s.acknowledgeInt.enterHandler target).onTop s.pc s.sp ∧
        (s.acknowledgeInt.enterHandler target).iff1 = false ∧ (s.acknowledgeInt.enterHandler target).iff2 = false :=
    fun target => ⟨State.onTop_enterHandler (s := s.acknowledgeInt) hhigh hlow target,
      State.callTo_iff1 _ _ _, State.callTo_iff2 _ _ _⟩
  have him : s.acknowledgeInt.im = s.im := rfl
  simp only [State.acceptInt, him]
  cases hm : s.im with
  | im0 =>
    have hrst : isRstByte s.acknowledgeInt.now.busByte = true := hmode.resolve_left fun h => h hm
    exact ⟨_, if_pos hrst, handled _⟩
  | im1 => exact ⟨_, rfl, handled _⟩
  | im2 =>
    refine ⟨_, rfl, State.onTop_enterMode2 (s := s.acknowledgeInt) hhigh hlow, ?_, ?_⟩
    all_goals
      simp only [State.enterMode2, State.jumpTo_iff1, State.read16_iff1, State.push16_iff1,
        State.jumpTo_iff2, State.read16_iff2, State.push16_iff2]
      rfl

end

theorem State.iff2_acceptNmi (s : State) : s.acceptNmi.iff2 = s.iff2 := by
  rw [State.acceptNmi, State.enterHandler, State.callTo_iff2, State.countFetches_iff2]

theorem step_of_takesNmi {s : State} (h : s.takesNmi) : step s = .next s.sample.acceptNmi := by
  obtain ⟨hreset, hnmi⟩ := h
  have hkind : s.sample.stepKind = .nmi := by simp_all [State.stepKind, State.nmiDue]
  simp only [step, hkind]

theorem step_of_takesInt {s : State} (h : s.takesInt) : step s = s.sample.acceptInt := by
  obtain ⟨hreset, hnmi, hint⟩ := h
  have hkind : s.sample.stepKind = .int := by simp_all [State.stepKind, State.nmiDue, State.intDue]
  simp only [step, hkind]

/-- Settles O34: each first half leaves its word on top, and each second half takes it from there. -/
theorem stackRoundTrips : Obligations.StackRoundTrips := by
  unfold Obligations.StackRoundTrips
  intro s hhigh hlow
  refine ⟨fun q q' x hx y hy => ?_, fun cc cc' nn p x hx y hy => ?_, fun hnmi => ?_, fun hint hmode => ?_⟩
  · obtain ⟨t, hpush, htop⟩ := exec_push_onTop hhigh hlow q x hx
    obtain ⟨u, hpop⟩ := exec_pop_of_onTop htop q' y hy
    exact ⟨t, u, hpush, hpop⟩
  · obtain ⟨t, hcall, htop, hf⟩ := exec_call_onTop hhigh hlow cc nn p x hx
    have hmet : conditionMet cc' t = conditionMet cc' s := by cases cc' <;> simp only [conditionMet, hf]
    obtain ⟨u, hreturn⟩ := exec_return_of_onTop htop cc' y (hmet ▸ hy)
    exact ⟨t, u, hcall, hreturn⟩
  · have htop : s.sample.acceptNmi.onTop s.pc s.sp := State.onTop_acceptNmi (s := s.sample) hhigh hlow
    have hiff2 : s.sample.acceptNmi.returnPop.iff2 = s.iff2 :=
      (State.returnPop_iff2 _).trans s.sample.iff2_acceptNmi
    exact ⟨_, _, step_of_takesNmi hnmi, rfl, htop.pc_returnPop, htop.sp_returnPop, hiff2, hiff2⟩
  · obtain ⟨t, haccept, htop, hiff1, hiff2⟩ := State.onTop_acceptInt (s := s.sample) hhigh hlow hmode
    exact ⟨t, _, (step_of_takesInt hint).trans haccept, rfl, htop.pc_returnPop, htop.sp_returnPop,
      (State.returnPop_iff1 _).trans hiff1, (State.returnPop_iff2 _).trans hiff2⟩

end Sys2Proof.Machine
end

section
/-!
PROOF of O1 and O2: the decoder and the encoder agree on all bytes.

One theorem says everything that the decoder answers (`decode_accounted`): an instruction only where its encoding stands,
a reserved encoding only where R109 lists one, and too few bytes only where an encoding is cut off. Its proof goes page by
page through the opcode map, a row of it for each value of the field `zzz`. The other direction is `encode_readsWhole`.
-/

namespace Sys2Proof

open Sys2Proof.Machine

/-! ## What an answer of the decoder may be -/

/-- The bytes are the encoding of the instruction, which is well-formed. -/
def Instr.EncodedAs (i : Instr) (word : List Byte) : Prop := i.wellFormed = true ∧ encode i = word

/-- The bytes start a reserved encoding (R109). -/
def reservedStart (bytes : List Byte) : Bool :=
  reservedBytes (bytes.getD 0 0) (bytes.getD 1 0) (bytes.getD 3 0)

/-- The bytes account for the decoder's answer: they start with the encoding of the instruction read, or with a
reserved encoding, or are an encoding cut off before its end. -/
inductive Accounted (bytes : List Byte) : Decoded → Prop where
  | read {i : Instr} {word rest : List Byte} :
      i.EncodedAs word → bytes = word ++ rest → Accounted bytes (.ok i rest)
  | reserved {why : Reject} : why ≠ .truncated → reservedStart bytes = true → Accounted bytes (.reject why)
  | cutOff {i : Instr} {more : List Byte} :
      more ≠ [] → i.EncodedAs (bytes ++ more) → Accounted bytes (.reject .truncated)

namespace Accounted
variable {word rest : List Byte}

theorem whole {i : Instr} (h : i.EncodedAs word) : Accounted (word ++ rest) (.ok i rest) := .read h rfl

theorem withByte {mk : Byte → Instr} (h : ∀ n, (mk n).EncodedAs (word ++ [n])) :
    Accounted (word ++ rest) (withByte mk rest) := by
  match rest with
  | [] => exact .cutOff (List.cons_ne_nil 0 []) (by simpa using h 0)
  | n :: rest => exact .read (h n) (by simp)

theorem withTwoBytes {mk : Byte → Byte → Instr} (h : ∀ d n, (mk d n).EncodedAs (word ++ [d, n])) :
    Accounted (word ++ rest) (withTwoBytes mk rest) := by
  match rest with
  | [] => exact .cutOff (List.cons_ne_nil 0 [0]) (by simpa using h 0 0)
  | [d] => exact .cutOff (List.cons_ne_nil 0 []) (by simpa using h d 0)
  | d :: n :: rest => exact .read (h d n) (by simp)

/-- A word operand is its low byte and then its high byte (R100). -/
theorem withWord {mk : Word → Instr} (h : ∀ nn, (mk nn).EncodedAs (word ++ [loByte nn, hiByte nn])) :
    Accounted (word ++ rest) (withWord mk rest) := by
  have hjoin : ∀ nl nh, (mk (joinBytes nh nl)).EncodedAs (word ++ [nl, nh]) := fun nl nh => by
    simpa using h (joinBytes nh nl)
  match rest with
  | [] => exact .cutOff (List.cons_ne_nil 0 [0]) (by simpa using hjoin 0 0)
  | [nl] => exact .cutOff (List.cons_ne_nil 0 []) (by simpa using hjoin nl 0)
  | nl :: nh :: rest => exact .read (hjoin nl nh) (by simp)

end Accounted

/-! ## The fields of an opcode byte (R92, R97, R104) -/

theorem exists_opcode (op : Byte) : ∃ x y z, op = opcode x y z :=
  ⟨op.extractLsb' 6 2, op.extractLsb' 3 3, op.extractLsb' 0 3, by revert op; decide⟩

/-- A 3-bit code is that of a register or 110 (R92). -/
theorem code_cases (z : BitVec 3) : z = codeAtHL ∨ ∃ r : Reg8, z = r.code := by
  match z with
  | 0 => exact .inr ⟨.b, rfl⟩
  | 1 => exact .inr ⟨.c, rfl⟩
  | 2 => exact .inr ⟨.d, rfl⟩
  | 3 => exact .inr ⟨.e, rfl⟩
  | 4 => exact .inr ⟨.h, rfl⟩
  | 5 => exact .inr ⟨.l, rfl⟩
  | 6 => exact .inl rfl
  | 7 => exact .inr ⟨.a, rfl⟩

@[simp] theorem bitNumberOk_toNat (y : BitVec 3) : bitNumberOk y.toNat = true := decide_eq_true y.isLt

@[simp] theorem bitCode_toNat (y : BitVec 3) : bitCode y.toNat = y := BitVec.ofNat_toNat 3 y

/-! ## The base page, quarters 00, 01 and 10 (R104) -/

theorem decodeBase0_accounted (y z : BitVec 3) (rest : List Byte) :
    Accounted ([opcode 0 y z] ++ rest) (decodeBase0 y.toNat rest z.toNat) := by
  match z with
  | 0 =>
    match y with
    | 0 | 1 => exact .whole ⟨rfl, rfl⟩
    | 2 | 3 | 4 | 5 | 6 | 7 => exact .withByte fun _ => ⟨rfl, rfl⟩
  | 1 =>
    match y with
    | 0 | 2 | 4 | 6 => exact .withWord fun _ => ⟨rfl, rfl⟩
    | 1 | 3 | 5 | 7 => exact .whole ⟨rfl, rfl⟩
  | 2 =>
    match y with
    | 0 | 1 | 2 | 3 => exact .whole ⟨rfl, rfl⟩
    | 4 | 5 | 6 | 7 => exact .withWord fun _ => ⟨rfl, rfl⟩
  | 6 => match y with | 0 | 1 | 2 | 3 | 4 | 5 | 6 | 7 => exact .withByte fun _ => ⟨rfl, rfl⟩
  | 3 | 4 | 5 | 7 => match y with | 0 | 1 | 2 | 3 | 4 | 5 | 6 | 7 => exact .whole ⟨rfl, rfl⟩

theorem decodeBase1_accounted (y z : BitVec 3) (rest : List Byte) :
    Accounted ([opcode 1 y z] ++ rest) (decodeBase1 rest (regOfCode y.toNat) (regOfCode z.toNat)) := by
  obtain rfl | ⟨r, rfl⟩ := code_cases y <;> obtain rfl | ⟨r', rfl⟩ := code_cases z <;>
    simp only [regOfCode_code, toNat_codeAtHL, regOfCode_six] <;> exact .whole ⟨rfl, rfl⟩

theorem aluInstr_encodedAs (y z : BitVec 3) :
    (aluInstr y.toNat (regOfCode z.toNat)).EncodedAs [opcode 2 y z] := by
  obtain rfl | ⟨r, rfl⟩ := code_cases z <;> simp only [regOfCode_code, toNat_codeAtHL, regOfCode_six] <;>
    match y with | 0 | 1 | 2 | 3 | 4 | 5 | 6 | 7 => exact ⟨rfl, rfl⟩

/-! ## Page CB (R105) -/

theorem decodeCB_accounted (rest : List Byte) : Accounted ([0xCB] ++ rest) (decodeCB rest) := by
  match rest with
  | [] => exact .cutOff (i := .rlcAtHL) (List.cons_ne_nil 0x06 []) ⟨rfl, rfl⟩
  | op :: rest =>
    show Accounted ([0xCB, op] ++ rest) _
    obtain ⟨x, y, z, rfl⟩ := exists_opcode op
    simp only [decodeCB, fieldX_opcode, fieldY_opcode, fieldZ_opcode]
    match x with
    | 0 =>
      obtain rfl | ⟨r, rfl⟩ := code_cases z
      · match y with
        | 6 => exact .reserved nofun rfl
        | 0 | 1 | 2 | 3 | 4 | 5 | 7 => exact .whole ⟨rfl, rfl⟩
      · rw [regOfCode_code]
        match y with
        | 6 => exact .reserved nofun (by cases r <;> rfl)
        | 0 | 1 | 2 | 3 | 4 | 5 | 7 => exact .whole ⟨rfl, rfl⟩
    | 1 | 2 | 3 =>
      obtain rfl | ⟨r, rfl⟩ := code_cases z <;> simp only [regOfCode_code, toNat_codeAtHL, regOfCode_six] <;>
        exact .whole ⟨bitNumberOk_toNat y, by simp [encode]⟩

/-! ## Page ED (R106, R109) -/

/-- A cell of page ED that takes no operand byte is an instruction's encoding or reserved. -/
def CellED (op : Byte) (cell : Option Instr) : Prop :=
  (∀ i ∈ cell, i.wellFormed = true ∧ encode i = [0xED, op]) ∧ (cell = none → reservedOnED op.toNat = true)

theorem reserved_onED {op : Byte} (rest : List Byte) (h : reservedOnED op.toNat = true) :
    Accounted ([0xED, op] ++ rest) (.reject (.reservedED op)) :=
  .reserved nofun (by simp [reservedStart, reservedBytes, h])

theorem orReservedED_accounted {op : Byte} {cell : Option Instr} (rest : List Byte) (h : CellED op cell) :
    Accounted ([0xED, op] ++ rest) (orReservedED op rest cell) := by
  obtain ⟨hsome, hnone⟩ := h
  cases cell with
  | none => exact reserved_onED rest (hnone rfl)
  | some i => exact .whole (hsome i rfl)

theorem cellED_block (y z : BitVec 3) : CellED (opcode 2 y z) (blockInstr y.toNat z.toNat) := by
  unfold CellED; revert y z; decide

theorem cellED_inRegC (y : BitVec 3) : CellED (opcode 1 y 0) ((regOfCode y.toNat).map .inRegC) := by
  unfold CellED; revert y; decide

theorem cellED_outCReg (y : BitVec 3) : CellED (opcode 1 y 1) ((regOfCode y.toNat).map .outCReg) := by
  unfold CellED; revert y; decide

theorem cellED_misc (y z : BitVec 3) (hz : 4 ≤ z.toNat) : CellED (opcode 1 y z) (edMiscInstr y.toNat z.toNat) := by
  unfold CellED; revert y z; decide

theorem reservedOnED_first_quarter : ∀ y z : BitVec 3, reservedOnED (opcode 0 y z).toNat = true := by decide

theorem reservedOnED_last_quarter : ∀ y z : BitVec 3, reservedOnED (opcode 3 y z).toNat = true := by decide

theorem decodeED_accounted (rest : List Byte) : Accounted ([0xED] ++ rest) (decodeED rest) := by
  match rest with
  | [] => exact .cutOff (i := .neg) (List.cons_ne_nil 0x44 []) ⟨rfl, rfl⟩
  | op :: rest =>
    show Accounted ([0xED, op] ++ rest) _
    obtain ⟨x, y, z, rfl⟩ := exists_opcode op
    simp only [decodeED, fieldX_opcode, fieldY_opcode, fieldZ_opcode]
    match x with
    | 0 => exact reserved_onED rest (reservedOnED_first_quarter y z)
    | 1 =>
      match z with
      | 0 => exact orReservedED_accounted rest (cellED_inRegC y)
      | 1 => exact orReservedED_accounted rest (cellED_outCReg y)
      | 2 => match y with | 0 | 1 | 2 | 3 | 4 | 5 | 6 | 7 => exact .whole ⟨rfl, rfl⟩
      | 3 =>
        match y with
        | 0 | 2 | 4 | 6 => exact .withWord (mk := (.ldAtNNPair · _)) fun _ => ⟨rfl, rfl⟩
        | 1 | 3 | 5 | 7 => exact .withWord fun _ => ⟨rfl, rfl⟩
      | 4 | 5 | 6 | 7 => exact orReservedED_accounted rest (cellED_misc y _ (by decide))
    | 2 => exact orReservedED_accounted rest (cellED_block y z)
    | 3 => exact reserved_onED rest (reservedOnED_last_quarter y z)

/-! ## Pages DD and FD (R107 to R109) -/

/-- The byte that opens the page of an index register (R90). -/
def Index.page : Index → Byte
  | .ix => 0xDD
  | .iy => 0xFD

theorem reserved_onXY {x : Index} {op : Byte} (rest : List Byte) (h : assignedOnXY op.toNat = false) :
    Accounted ([x.page, op] ++ rest) (.reject (.reservedXY op)) :=
  .reserved nofun (by cases x <;> simp [reservedStart, reservedBytes, Index.page, h])

/-- On pages DDCB and FDCB an opcode that does not end in 110 is reserved, and 36 too. -/
theorem reserved_onXYCB {x : Index} {d op : Byte} (rest : List Byte) (h : fieldZ op ≠ 6 ∨ op = 0x36) :
    Accounted ([x.page, 0xCB, d, op] ++ rest) (.reject (.reservedXYCB op)) :=
  .reserved nofun (by cases x <;> simpa [reservedStart, reservedBytes, Index.page] using .inr h)

theorem decodeXY0_accounted (x : Index) (y z : BitVec 3) (rest : List Byte) :
    Accounted ([x.page, opcode 0 y z] ++ rest) (decodeXY0 x (opcode 0 y z) rest) := by
  simp only [decodeXY0, fieldY_opcode, fieldZ_opcode]
  match z with
  | 0 | 7 => match y with | 0 | 1 | 2 | 3 | 4 | 5 | 6 | 7 => exact reserved_onXY rest rfl
  | 1 =>
    match y with
    | 0 | 2 | 6 => exact reserved_onXY rest rfl
    | 1 | 3 | 5 | 7 => exact .whole (by cases x <;> exact ⟨rfl, rfl⟩)
    | 4 => exact .withWord fun _ => by cases x <;> exact ⟨rfl, rfl⟩
  | 2 =>
    match y with
    | 0 | 1 | 2 | 3 | 6 | 7 => exact reserved_onXY rest rfl
    | 4 | 5 => exact .withWord fun _ => by cases x <;> exact ⟨rfl, rfl⟩
  | 3 =>
    match y with
    | 0 | 1 | 2 | 3 | 6 | 7 => exact reserved_onXY rest rfl
    | 4 | 5 => exact .whole (by cases x <;> exact ⟨rfl, rfl⟩)
  | 4 | 5 =>
    match y with
    | 0 | 1 | 2 | 3 | 4 | 5 | 7 => exact reserved_onXY rest rfl
    | 6 => exact .withByte fun _ => by cases x <;> exact ⟨rfl, rfl⟩
  | 6 =>
    match y with
    | 0 | 1 | 2 | 3 | 4 | 5 | 7 => exact reserved_onXY rest rfl
    | 6 => exact .withTwoBytes fun _ _ => by cases x <;> exact ⟨rfl, rfl⟩

/-- Pages DDCB and FDCB: the displacement, then the opcode (R108). -/
theorem decodeXYCB_accounted (x : Index) (rest : List Byte) :
    Accounted ([x.page, 0xCB] ++ rest) (decodeXYCB x rest) := by
  match rest with
  | [] =>
    exact .cutOff (i := forIndex (.rlcAtIX 0) (.rlcAtIY 0) x) (List.cons_ne_nil 0 [0x06])
      (by cases x <;> exact ⟨rfl, rfl⟩)
  | [d] =>
    exact .cutOff (i := forIndex (.rlcAtIX d) (.rlcAtIY d) x) (List.cons_ne_nil 0x06 [])
      (by cases x <;> exact ⟨rfl, rfl⟩)
  | d :: op :: rest =>
    show Accounted ([x.page, 0xCB, d, op] ++ rest) _
    obtain ⟨xx, y, z, rfl⟩ := exists_opcode op
    simp only [decodeXYCB, fieldX_opcode, fieldY_opcode, fieldZ_opcode]
    match z with
    | 6 =>
      match xx with
      | 0 =>
        match y with
        | 6 => cases x <;> exact reserved_onXYCB rest (.inr rfl)
        | 0 | 1 | 2 | 3 | 4 | 5 | 7 => cases x <;> exact .whole ⟨rfl, rfl⟩
      | 1 | 2 | 3 => cases x <;> exact .whole ⟨bitNumberOk_toNat y, by simp [forIndex, encode, codeAtHL, Index.page]⟩
    | 0 | 1 | 2 | 3 | 4 | 5 | 7 => exact reserved_onXYCB rest (.inl (by rw [fieldZ_opcode]; decide))

theorem decodeXY3_accounted (x : Index) (y z : BitVec 3) (rest : List Byte) :
    Accounted ([x.page, opcode 3 y z] ++ rest) (decodeXY3 x (opcode 3 y z) rest) := by
  simp only [decodeXY3, fieldY_opcode, fieldZ_opcode]
  match z with
  | 0 | 2 | 4 | 6 | 7 => match y with | 0 | 1 | 2 | 3 | 4 | 5 | 6 | 7 => exact reserved_onXY rest rfl
  | 1 =>
    match y with
    | 0 | 1 | 2 | 3 | 6 => exact reserved_onXY rest rfl
    | 4 | 5 | 7 => exact .whole (by cases x <;> exact ⟨rfl, rfl⟩)
  | 3 =>
    match y with
    | 0 | 2 | 3 | 5 | 6 | 7 => exact reserved_onXY rest rfl
    | 1 => exact decodeXYCB_accounted x rest
    | 4 => exact .whole (by cases x <;> exact ⟨rfl, rfl⟩)
  | 5 =>
    match y with
    | 0 | 1 | 2 | 3 | 5 | 6 | 7 => exact reserved_onXY rest rfl
    | 4 => exact .whole (by cases x <;> exact ⟨rfl, rfl⟩)

/-- Where neither or both register codes are 110, pages DD and FD have no load. -/
theorem assignedOnXY_load : ∀ y z : BitVec 3, (y = codeAtHL ↔ z = codeAtHL) →
    assignedOnXY (opcode 1 y z).toNat = false := by
  decide

theorem assignedOnXY_alu : ∀ y z : BitVec 3, z ≠ codeAtHL → assignedOnXY (opcode 2 y z).toNat = false := by
  decide

theorem code_ne_codeAtHL (r : Reg8) : r.code ≠ codeAtHL := by cases r <;> decide

theorem decodeXY_accounted (x : Index) (rest : List Byte) : Accounted ([x.page] ++ rest) (decodeXY x rest) := by
  match rest with
  | [] =>
    exact .cutOff (i := forIndex .pushIX .pushIY x) (List.cons_ne_nil 0xE5 [])
      (by cases x <;> exact ⟨rfl, rfl⟩)
  | op :: rest =>
    show Accounted ([x.page, op] ++ rest) _
    obtain ⟨xx, y, z, rfl⟩ := exists_opcode op
    simp only [decodeXY, fieldX_opcode, fieldY_opcode, fieldZ_opcode]
    match xx with
    | 0 => exact decodeXY0_accounted x y z rest
    | 1 =>
      obtain rfl | ⟨r, rfl⟩ := code_cases y <;> obtain rfl | ⟨r', rfl⟩ := code_cases z <;>
        simp only [regOfCode_code, toNat_codeAtHL, regOfCode_six]
      · exact reserved_onXY rest rfl
      · exact .withByte fun _ => by cases x <;> exact ⟨rfl, rfl⟩
      · exact .withByte fun _ => by cases x <;> exact ⟨rfl, rfl⟩
      · exact reserved_onXY rest (assignedOnXY_load _ _ (by simp [code_ne_codeAtHL]))
    | 2 =>
      by_cases hz : z = codeAtHL
      · subst hz
        match y with
        | 0 | 1 | 2 | 3 | 4 | 5 | 6 | 7 => exact .withByte fun _ => by cases x <;> exact ⟨rfl, rfl⟩
      · have hfield : z.toNat ≠ 6 := fun h => hz (BitVec.eq_of_toNat_eq h)
        simpa [hfield] using reserved_onXY rest (assignedOnXY_alu y z hz)
    | 3 => exact decodeXY3_accounted x y z rest

/-! ## The base page, quarter 11, and all bytes (R103, R104) -/

/-- The quarter with the four bytes that open another page. -/
theorem decodeBase3_accounted (y z : BitVec 3) (rest : List Byte) :
    Accounted ([opcode 3 y z] ++ rest) (decodeBase3 y.toNat rest z.toNat) := by
  match z with
  | 0 | 1 | 7 => match y with | 0 | 1 | 2 | 3 | 4 | 5 | 6 | 7 => exact .whole ⟨rfl, rfl⟩
  | 2 | 4 => match y with | 0 | 1 | 2 | 3 | 4 | 5 | 6 | 7 => exact .withWord fun _ => ⟨rfl, rfl⟩
  | 3 =>
    match y with
    | 0 => exact .withWord fun _ => ⟨rfl, rfl⟩
    | 1 => exact decodeCB_accounted rest
    | 2 | 3 => exact .withByte fun _ => ⟨rfl, rfl⟩
    | 4 | 5 | 6 | 7 => exact .whole ⟨rfl, rfl⟩
  | 5 =>
    match y with
    | 0 | 2 | 4 | 6 => exact .whole ⟨rfl, rfl⟩
    | 1 => exact .withWord fun _ => ⟨rfl, rfl⟩
    | 3 => exact decodeXY_accounted .ix rest
    | 5 => exact decodeED_accounted rest
    | 7 => exact decodeXY_accounted .iy rest
  | 6 => match y with | 0 | 1 | 2 | 3 | 4 | 5 | 6 | 7 => exact .withByte fun _ => ⟨rfl, rfl⟩

/-- Any bytes account for what the decoder answers. -/
theorem decode_accounted (bytes : List Byte) : Accounted bytes (decode bytes) := by
  match bytes with
  | [] => exact .cutOff (i := .nop) (List.cons_ne_nil 0x00 []) ⟨rfl, rfl⟩
  | op :: rest =>
    show Accounted ([op] ++ rest) _
    obtain ⟨x, y, z, rfl⟩ := exists_opcode op
    simp only [decode, fieldX_opcode, fieldY_opcode, fieldZ_opcode]
    match x with
    | 0 => exact decodeBase0_accounted y z rest
    | 1 => exact decodeBase1_accounted y z rest
    | 2 => exact .whole (aluInstr_encodedAs y z)
    | 3 => exact decodeBase3_accounted y z rest

/-- Settles O1: an encoding is whole, so that the decoder takes it and leaves what follows. -/
theorem decodeOfEncode : Obligations.DecodeOfEncode := by
  unfold Obligations.DecodeOfEncode
  intro i rest hwf
  obtain ⟨-, hdecode⟩ := encode_readsWhole i hwf
  exact hdecode rest

/-- Settles O2: the bytes account for the instruction read only by starting with its encoding. -/
theorem encodeOfDecode : Obligations.EncodeOfDecode := by
  unfold Obligations.EncodeOfDecode
  intro bytes rest i hdec
  have haccounted := decode_accounted bytes
  rw [hdec] at haccounted
  cases haccounted with
  | read hword hbytes =>
    obtain ⟨hwf, rfl⟩ := hword
    exact ⟨hwf, hbytes⟩

end Sys2Proof
end

section
/-!
PROOF of O3, O4 and O5: the reserved encodings, and that a fetch reads one whole instruction.

What `decode_accounted` leaves open is settled here. No encoding starts as a reserved one does, so that the reserved
encodings are exactly the bytes that are refused; and no proper part of an encoding is as long as a fetch, so that a fetch
never stops too early.
-/

namespace Sys2Proof

open Sys2Proof.Machine

/-! ## No encoding is reserved (R109) -/

theorem reservedStart_pageCB {op : Byte} (more : List Byte) (h : fieldX op ≠ 0) :
    reservedStart (0xCB :: op :: more) = false := by
  have hop : 0x30 ≤ op.toNat → 0x37 < op.toNat := by simp only [fieldX] at h; omega
  simpa [reservedStart, reservedBytes] using hop

theorem reservedStart_pageXYCB {x : Index} {d op : Byte} (more : List Byte) (hz : fieldZ op = 6)
    (hop : op ≠ 0x36) :
    reservedStart (x.page :: 0xCB :: d :: op :: more) = false := by
  have hlow : op.toNat % 8 = 6 := hz
  have hcb : assignedOnXY 0xCB = true := rfl
  cases x <;> simpa [reservedStart, reservedBytes, Index.page, hlow, hcb] using hop

/-- The one reserved opcode that ends in 110 on pages DDCB and FDCB is no bit instruction. -/
theorem opcode_codeAtHL_ne : ∀ (x : BitVec 2) (y : BitVec 3), x ≠ 0 → opcode x y codeAtHL ≠ 0x36 := by decide

theorem reservedStart_encode {i : Instr} (hwf : i.wellFormed = true) (rest : List Byte) :
    reservedStart (encode i ++ rest) = false := by
  cases i with
  -- A register, a register pair or a condition in the opcode
  | ldRegReg r r' => cases r <;> cases r' <;> rfl
  | ldRegImm r _ | ldRegAtHL r | ldRegAtIX r _ | ldRegAtIY r _ | ldAtHLReg r | ldAtIXReg _ r | ldAtIYReg _ r
  | addReg r | adcReg r | subReg r | sbcReg r | andReg r | orReg r | xorReg r | cpReg r | incReg r | decReg r
  | rlcReg r | rlReg r | rrcReg r | rrReg r | slaReg r | sraReg r | srlReg r | inRegC r | outCReg r =>
    cases r <;> rfl
  | ldPairImm p _ | ldPairAtNN p _ | ldAtNNPair _ p | pushPair p | popPair p | addHLPair p | adcHLPair p
  | sbcHLPair p | addIXPair p | addIYPair p | incPair p | decPair p => cases p <;> rfl
  | jpCond cc _ | callCond cc _ | retCond cc => cases cc <;> rfl
  -- A bit number or a restart address
  | bitReg | setReg | resReg | bitAtHL | setAtHL | resAtHL =>
    exact reservedStart_pageCB rest (by rw [fieldX_opcode]; decide)
  | bitAtIX | setAtIX | resAtIX =>
    exact reservedStart_pageXYCB (x := .ix) rest (fieldZ_opcode _ _ _) (opcode_codeAtHL_ne _ _ (by decide))
  | bitAtIY | setAtIY | resAtIY =>
    exact reservedStart_pageXYCB (x := .iy) rest (fieldZ_opcode _ _ _) (opcode_codeAtHL_ne _ _ (by decide))
  | rst p => rcases restartOk_cases hwf with rfl | rfl | rfl | rfl | rfl | rfl | rfl | rfl <;> rfl
  -- A fixed opcode, on pages DDCB and FDCB behind the displacement
  | rlcAtIX | rlAtIX | rrcAtIX | rrAtIX | slaAtIX | sraAtIX | srlAtIX =>
    exact reservedStart_pageXYCB (x := .ix) rest rfl (by decide)
  | rlcAtIY | rlAtIY | rrcAtIY | rrAtIY | slaAtIY | sraAtIY | srlAtIY =>
    exact reservedStart_pageXYCB (x := .iy) rest rfl (by decide)
  | _ => rfl

/-- An instruction is at most four bytes long (R90). -/
theorem length_encode_le (i : Instr) : (encode i).length ≤ 4 := by
  cases i with | _ => exact of_decide_eq_true rfl

/-- Settles O3: four bytes are never cut off, and those that the decoder reads are not reserved. -/
theorem reservedEncodings : Obligations.ReservedEncodings := by
  unfold Obligations.ReservedEncodings
  intro b0 b1 b2 b3
  have hstart : reservedBytes b0 b1 b3 = reservedStart [b0, b1, b2, b3] := rfl
  have haccounted := decode_accounted [b0, b1, b2, b3]
  rw [hstart]
  generalize decode [b0, b1, b2, b3] = answer at haccounted
  cases haccounted with
  | read hword hbytes =>
    obtain ⟨hwf, rfl⟩ := hword
    simp [Decoded.instr?, hbytes, reservedStart_encode hwf]
  | reserved _ hreserved => simp [Decoded.instr?, hreserved]
  | @cutOff i more hmore hword =>
    have hfour : ([b0, b1, b2, b3] ++ more).length ≤ 4 := hword.2 ▸ length_encode_le i
    have hpos : 0 < more.length := List.length_pos_of_ne_nil hmore
    simp only [List.length_append, List.length_cons, List.length_nil] at hfour
    omega

/-! ## A fetch is as long as what it reads says (R103) -/

theorem fetchLength_append {bytes : List Byte} (h : bytes.length = fetchLength bytes) (more : List Byte) :
    fetchLength (bytes ++ more) = bytes.length := by
  rw [h]
  match bytes with
  | [] => cases h
  | [b0] =>
    cases hpage : opensPage b0 with
    | false => cases more <;> simp [fetchLength, hpage]
    | true => simp [fetchLength, hpage] at h
  | b0 :: b1 :: bytes => rfl

namespace Machine

theorem State.length_fetchBytes (n : Nat) (a : Word) (s : State) : (s.fetchBytes n a).1.length = n := by
  induction n generalizing a s with
  | zero => rfl
  | succ n ih => simp [State.fetchBytes, ih]

theorem State.length_fetch (s : State) : s.fetch.1.length = fetchLength s.fetch.1 := by
  cases hpage : opensPage (s.read8 s.pc).1 with
  | true => simp [State.fetch, fetchLength, hpage, State.length_fetchBytes]
  | false =>
    simp only [State.fetch, hpage, Bool.false_eq_true, if_false]
    generalize hmore : State.fetchBytes _ _ _ = p
    have hlen : p.1.length = operandBytes (s.read8 s.pc).1 := by rw [← hmore, State.length_fetchBytes]
    match p with
    | ([], _) | (_ :: _, _) => simp [fetchLength, hpage, ← hlen]

end Machine

/-- Of two byte lists that are each as long as a fetch of them, the one is no proper start of the other. -/
theorem eq_nil_of_fetchLength {bytes more : List Byte} (h : bytes.length = fetchLength bytes)
    (hmore : (bytes ++ more).length = fetchLength (bytes ++ more)) : more = [] := by
  rw [fetchLength_append h] at hmore
  simpa using hmore

/-- Settles O4: the bytes fetched are as many as they themselves ask for, and so is an encoding. -/
theorem fetchReadsWholeInstruction : Obligations.FetchReadsWholeInstruction := by
  unfold Obligations.FetchReadsWholeInstruction
  intro s
  have hfetch := s.length_fetch
  refine ⟨fun i rest hdec => ?_, fun hdec => ?_⟩
  · obtain ⟨hwf, hbytes⟩ := encodeOfDecode _ rest i hdec
    obtain ⟨hlen, -⟩ := encode_readsWhole i hwf
    rw [hbytes] at hfetch
    obtain rfl := eq_nil_of_fetchLength hlen hfetch
    exact ⟨rfl, by simpa using hbytes⟩
  · have haccounted := decode_accounted s.fetch.1
    rw [hdec] at haccounted
    cases haccounted with
    | reserved hwhy => exact hwhy rfl
    | @cutOff i more hmore hword =>
      obtain ⟨hwf, hbytes⟩ := hword
      obtain ⟨hlen, -⟩ := encode_readsWhole i hwf
      rw [hbytes] at hlen
      exact hmore (eq_nil_of_fetchLength hfetch hlen)

/-- Settles O5, word by word. -/
theorem sampleWordsDecode : Obligations.SampleWordsDecode := by
  unfold Obligations.SampleWordsDecode
  exact ⟨rfl, rfl, rfl, rfl, rfl, rfl, rfl, rfl, rfl⟩

end Sys2Proof
end

section
/-!
PROOF of O8: where a step stops.

Every boundary is one of the five of R422, and the step is computed at each. An instruction always gives a next state, so
that only a rejection by the decoder and a mode-0 byte that is no restart are left.
-/

namespace Sys2Proof.Machine

/-- No instruction faults or is refused (R420). -/
theorem exec_next (i : Instr) (s : State) : ∃ t, exec i s = .next t := by
  cases i with | _ => exact ⟨_, rfl⟩

/-- What the coming step can be, in the order of R422. -/
theorem State.boundary_cases (s : State) :
    s.nextInputs.reset = true ∨ s.takesNmi ∨ s.takesInt ∨ s.staysHalted ∨ s.runsInstruction := by
  simp only [State.takesNmi, State.takesInt, State.staysHalted, State.runsInstruction]
  cases s.nextInputs.reset <;> cases s.nmiDue <;> cases s.intDue <;> cases s.halted <;> simp

theorem step_of_reset {s : State} (h : s.nextInputs.reset = true) : step s = .next s.sample.resetCpu := by
  have hkind : s.sample.stepKind = .reset := by simp [State.stepKind, h]
  simp only [step, hkind]

theorem step_of_staysHalted {s : State} (h : s.staysHalted) : step s = .next (s.sample.countFetches 1) := by
  obtain ⟨hreset, hnmi, hint, hhalt⟩ := h
  have hkind : s.sample.stepKind = .haltedTick := by simp_all [State.stepKind, State.nmiDue, State.intDue]
  simp only [step, hkind]

theorem step_of_reject {s : State} {why : Reject} (h : s.runsInstruction)
    (hdec : decode s.atFetch.fetch.1 = .reject why) : step s = .refused (.reservedEncoding why) := by
  simp only [step, State.stepKind_sample h, State.fetchInstr]
  rw [← State.atFetch, hdec]

/-- An acceptance gives a next state but in mode 0 with a byte that is no restart (R426). -/
theorem State.acceptInt_cases (s : State) :
    (∃ t, s.acceptInt = .next t) ∨
      (s.im = .im0 ∧ isRstByte s.now.busByte = false ∧ s.acceptInt = .refused (.mode0NotRst s.now.busByte)) := by
  have him : s.acknowledgeInt.im = s.im := rfl
  have hnow : s.acknowledgeInt.now = s.now := rfl
  simp only [State.acceptInt, him, hnow]
  cases s.im with
  | im0 => cases isRstByte s.now.busByte <;> simp
  | im1 | im2 => exact .inl ⟨_, rfl⟩

/-- Settles O8, one kind of step after the other. -/
theorem stepStopsOnlyWhereRefused : Obligations.StepStopsOnlyWhereRefused := by
  unfold Obligations.StepStopsOnlyWhereRefused
  intro s
  obtain hreset | hnmi | hint | hhalted | hruns := s.boundary_cases
  · exact .inl ⟨_, step_of_reset hreset⟩
  · exact .inl ⟨_, step_of_takesNmi hnmi⟩
  · rw [step_of_takesInt hint]
    exact s.sample.acceptInt_cases.imp_right fun hrefused => .inr ⟨hint, hrefused⟩
  · exact .inl ⟨_, step_of_staysHalted hhalted⟩
  · cases hdec : decode s.atFetch.fetch.1 with
    | ok i rest =>
      rw [step_of_fetch hruns hdec]
      exact .inl (exec_next i _)
    | reject why => exact .inr (.inl ⟨hruns, why, step_of_reject hruns hdec⟩)

end Sys2Proof.Machine
end

section
/-!
PROOF of O26, O27 and O28: the 8-bit loads (R130 to R151).

Each of them is one operation and then `advance`: a write of a register, a read of memory and then a write of a register
(`State.loadRegAt`), a write of memory, or a load of A from I or R (`State.loadAFromSpecial`). What the operation does is
said once, with `advance` after it by any length; the forms of an instruction differ in the register, the address, the
value and the length.
-/

namespace Sys2Proof.Machine

theorem changesOnly.advance {ps : List Piece} {s t : State} (h : changesOnly ps s t) (k : Word) :
    changesOnly (.pc :: ps) s (t.advance k) :=
  (h.mono (List.subset_cons_self _ _)).andThen (t.frame_advance k) (by simp)

/-! ## Loads of a register (R130 to R134, R141 to R143) -/

/-- The result of a load: a next state where `r` holds `v`, the accesses `events` have been added to the trace, and
nothing has changed but `r`, PC and the pieces `ps`. -/
def LoadsReg (r : Reg8) (v : Byte) (events : List BusEvent) (ps : List Piece) (s : State) (x : Result) : Prop :=
  ∃ t, x = .next t ∧ t.reg8 r = v ∧ t.trace = s.trace ++ events ∧ changesOnly (.reg r :: .pc :: ps) s t

theorem loadsReg_setReg8 (r : Reg8) (v : Byte) (s : State) (k : Word) :
    LoadsReg r v [] [] s (.next ((s.setReg8 r v).advance k)) :=
  ⟨_, rfl, by simp, by simp, ((s.frame_setReg8 r v).advance k).mono (by simp)⟩

/-- The loaded register has the byte read, whatever the register: the address is computed before the write. -/
theorem State.reg8_loadRegAt (s : State) (r : Reg8) (a : Word) : (s.loadRegAt r a).reg8 r = (s.read8 a).1 := by
  simp [State.loadRegAt, State.useAt]

theorem State.trace_loadRegAt (s : State) (r : Reg8) (a : Word) :
    (s.loadRegAt r a).trace = s.trace ++ readEvents a s := by
  rw [State.loadRegAt, State.useAt, State.setReg8_trace, State.trace_read8]

theorem loadsReg_loadRegAt (r : Reg8) (a : Word) (s : State) (k : Word) :
    LoadsReg r (s.read8 a).1 (readEvents a s) [.trace, .draws] s (.next ((s.loadRegAt r a).advance k)) :=
  ⟨_, rfl, (State.advance_reg8 _ r k).trans (s.reg8_loadRegAt r a), s.trace_loadRegAt r a,
    ((s.frame_loadRegAt r a).advance k).mono (by simp)⟩

/-- `LD r,s` for each form of the operand. -/
theorem exec_loadInstr_loadsReg (r : Reg8) (x : Source) (s : State) :
    LoadsReg r (x.value s) (x.events s) x.touches s (exec (loadInstr r x) s) := by
  cases x with
  | reg r' => exact loadsReg_setReg8 r (s.reg8 r') s 1
  | imm n => exact loadsReg_setReg8 r n s 2
  | atHL => exact loadsReg_loadRegAt r s.hl s 1
  | atIX d => exact loadsReg_loadRegAt r (s.addrIX d) s 3
  | atIY d => exact loadsReg_loadRegAt r (s.addrIY d) s 3

/-- Settles O26: `LD r,s` by the form of the operand, and the three loads of A from an address of their own. -/
theorem loadRegister : Obligations.LoadRegister := by
  unfold Obligations.LoadRegister
  refine ⟨exec_loadInstr_loadsReg, fun nn s => ?_⟩
  simp only [List.forall_mem_cons]
  exact ⟨loadsReg_loadRegAt .a s.bc s 1, loadsReg_loadRegAt .a s.de s 1, loadsReg_loadRegAt .a nn s 3, by simp⟩

/-! ## Stores of a byte (R135 to R140, R144 to R146) -/

/-- The result of a store: a next state where `v` has landed at `a`, the write is in the trace if `a` is a device's, and
nothing has changed but that byte, the trace and PC. -/
def StoresAt (a : Word) (v : Byte) (s : State) (x : Result) : Prop :=
  ∃ t, x = .next t ∧ landed a v s t ∧ t.trace = s.trace ++ writeEvents a v s ∧
    changesOnly [.byte a, .trace, .pc] s t

theorem storesAt_write8 (a : Word) (v : Byte) (s : State) (k : Word) :
    StoresAt a v s (.next ((s.write8 a v).advance k)) :=
  ⟨_, rfl, s.landed_write8 a v, s.trace_write8 a v, ((s.frame_write8 a v).advance k).mono (by simp)⟩

/-- Settles O27: each form is a write at its own address, then `advance` by its own length. -/
theorem storeByte : Obligations.StoreByte := by
  unfold Obligations.StoreByte
  intro r n d nn s
  simp only [List.forall_mem_cons]
  exact ⟨storesAt_write8 _ _ s 1, storesAt_write8 _ _ s 3, storesAt_write8 _ _ s 3, storesAt_write8 _ _ s 2,
    storesAt_write8 _ _ s 4, storesAt_write8 _ _ s 4, storesAt_write8 _ _ s 1, storesAt_write8 _ _ s 1,
    storesAt_write8 _ _ s 3, by simp⟩

/-! ## I and R (R147 to R150) -/

/-- S is the sign of a byte and Z that it is zero, where they are written as the model writes them (R28, R29). -/
theorem signZero_of_msb_of_beq {v : Byte} {x : FlagBits} (hs : x.s = v.msb) (hz : x.z = (v == 0)) : signZero v x := by
  simp [signZero, hs, hz, BitVec.msb_eq_toInt, ← BitVec.toNat_inj]

theorem State.a_loadAFromSpecial (s : State) (v : Byte) : (s.loadAFromSpecial v).a = v := rfl

/-- All six flags after `LD A,I` and `LD A,R`; P/V is a free value where an interrupt is accepted directly after (A9). -/
theorem State.flags_loadAFromSpecial (s : State) (v : Byte) :
    (s.loadAFromSpecial v).flags =
      { s := v.msb, z := v == 0, h := false, pv := if s.intFollows then s.anyBit.1 else s.iff2, n := false,
        c := s.flags.c } := by
  simp only [State.loadAFromSpecial, State.flags_writeFlags]
  cases s.intFollows <;> rfl

/-- The result of `LD A,I` and `LD A,R`, `v` being the byte they copy (R147, R148). -/
def LoadsAFlagged (v : Byte) (s : State) (x : Result) : Prop :=
  ∃ t, x = .next t ∧ t.a = v ∧ signZero v t.flags ∧ t.flags.h = false ∧ t.flags.n = false ∧
    t.flags.c = s.flags.c ∧ (s.intFollows = false → t.flags.pv = s.iff2) ∧
    changesOnly [.reg .a, .f, .pc, .draws] s t

theorem loadsAFlagged_loadAFromSpecial (v : Byte) (s : State) (k : Word) :
    LoadsAFlagged v s (.next ((s.loadAFromSpecial v).advance k)) := by
  have hframe : changesOnly [.reg .a, .f, .pc, .draws] s ((s.loadAFromSpecial v).advance k) :=
    ((s.frame_loadAFromSpecial v).advance k).mono (by simp)
  refine ⟨_, rfl, s.a_loadAFromSpecial v, ?_⟩
  rw [State.advance_flags, State.flags_loadAFromSpecial]
  exact ⟨signZero_of_msb_of_beq rfl rfl, rfl, rfl, rfl, fun hint => by simp [hint], hframe⟩

theorem State.frame_writeI (s : State) (v : Byte) : changesOnly [.i] s { s with i := v } := by
  intro p hp
  cases p with
  | i => simp at hp
  | reg q => cases q <;> rfl
  | _ => rfl

theorem State.frame_writeR (s : State) (v : Byte) : changesOnly [.r] s { s with r := v } := by
  intro p hp
  cases p with
  | r => simp at hp
  | reg q => cases q <;> rfl
  | _ => rfl

/-- Settles O28: the two loads of A share their operation, the two stores each write one register. -/
theorem loadSpecialRegister : Obligations.LoadSpecialRegister := by
  unfold Obligations.LoadSpecialRegister
  intro s
  simp only [List.forall_mem_cons]
  refine ⟨⟨loadsAFlagged_loadAFromSpecial s.i s 2, loadsAFlagged_loadAFromSpecial s.r s 2, by simp⟩,
    ⟨_, rfl, rfl, ?_⟩, ⟨_, rfl, rfl, ?_⟩⟩
  · exact ((s.frame_writeI s.a).advance 2).mono (by simp)
  · exact ((s.frame_writeR s.a).advance 2).mono (by simp)

end Sys2Proof.Machine
end

section
/-!
PROOF of O29 to O33: the 16-bit loads, PUSH and POP (R160 to R180), and the 16-bit INC and DEC (R285 to R290).

Each instruction is one operation and then `advance`: a write of a 16-bit register (`WordReg.put`), a 16-bit read of
memory or a pop whose word goes to such a write, a 16-bit store, or a push. As for the 8-bit loads, the result of each
operation is said once, with `advance` after it by any length.
-/

namespace Sys2Proof.Machine

/-! ## Writing a 16-bit register -/

/-- The model's write of a 16-bit register or pair (R93, R94): the operation that `WordReg.value` reads back. -/
def WordReg.put : WordReg → Word → State → State
  | .dd p => State.setPairDD p
  | .qq q => State.setPairQQ q
  | .ix => State.setIX
  | .iy => State.setIY

namespace WordReg
variable (w : WordReg)

@[simp] theorem value_put (v : Word) (s : State) : w.value (w.put v s) = v := by
  cases w with
  | dd p => exact s.pairDD_setPairDD p v
  | qq q => exact s.pairQQ_setPairQQ q v
  | ix | iy => rfl

theorem frame_put (v : Word) (s : State) : changesOnly w.pieces s (w.put v s) := by
  cases w with
  | dd p => exact s.frame_setPairDD p v
  | qq q => exact s.frame_setPairQQ q v
  | ix => exact s.frame_setIX v
  | iy => exact s.frame_setIY v

@[simp] theorem value_advance (s : State) (k : Word) : w.value (s.advance k) = w.value s := by
  cases w with
  | dd p => cases p <;> rfl
  | qq q => cases q <;> rfl
  | ix | iy => rfl

/-- The trace is no part of a register. -/
@[simp] theorem trace_put (v : Word) (s : State) : (w.put v s).trace = s.trace := by
  cases w with
  | dd p => exact s.setPairDD_trace p v
  | qq q => exact s.setPairQQ_trace q v
  | ix | iy => rfl

/-- A write of a register other than SP keeps SP. -/
theorem sp_put {w : WordReg} (hw : Piece.sp ∉ w.pieces) (v : Word) (s : State) : (w.put v s).sp = s.sp :=
  w.frame_put v s .sp hw

end WordReg

/-! ## Loads of a register, INC and DEC (R160 to R162, R171 to R173, R285 to R290) -/

/-- The result of a 16-bit load: a next state where `w` holds `v`, and nothing has changed but `w` and PC. -/
def LoadsWord (w : WordReg) (v : Word) (s : State) (x : Result) : Prop :=
  ∃ t, x = .next t ∧ w.value t = v ∧ changesOnly (.pc :: w.pieces) s t

theorem loadsWord_put (w : WordReg) (v : Word) (s : State) (k : Word) :
    LoadsWord w v s (.next ((w.put v s).advance k)) :=
  ⟨_, rfl, by simp, (w.frame_put v s).advance k⟩

/-- Settles O29: each form writes its own register, then advances by its own length. -/
theorem loadWord : Obligations.LoadWord := by
  unfold Obligations.LoadWord
  intro p nn s
  simp only [List.forall_mem_cons]
  exact ⟨loadsWord_put (.dd p) _ s 3, loadsWord_put .ix _ s 4, loadsWord_put .iy _ s 4,
    loadsWord_put (.dd .sp) _ s 1, loadsWord_put (.dd .sp) _ s 2, loadsWord_put (.dd .sp) _ s 2,
    loadsWord_put (.dd p) _ s 1, loadsWord_put .ix _ s 2, loadsWord_put .iy _ s 2,
    loadsWord_put (.dd p) _ s 1, loadsWord_put .ix _ s 2, loadsWord_put .iy _ s 2, by simp⟩

/-! ## Reading a word (R61, R67) -/

section
variable {s : State} {a : Word}

theorem wordReadAt_of_readable (h : s.readable a) (h' : s.readable (a + 1)) :
    wordReadAt a s = joinBytes (s.byteAt (a + 1)) (s.byteAt a) := by
  rw [← State.read16_word, State.read16_value s a h h']

/-- Where memory answers both reads, no access is observed. -/
theorem wordReadEvents_of_readable (h : s.readable a) (h' : s.readable (a + 1)) : wordReadEvents a s = [] := by
  have htrace := s.trace_read16 a
  rw [State.read16_value s a h h'] at htrace
  exact List.self_eq_append_right.mp htrace

/-- `v` is the word that a 16-bit read of `a` gives and `trace` the trace after it; where memory answers, the word is
the two bytes and the trace is as before. -/
theorem wordRead_of_readable {v : Word} {trace : List BusEvent} (hv : v = wordReadAt a s)
    (htrace : trace = s.trace ++ wordReadEvents a s) (h : s.readable a) (h' : s.readable (a + 1)) :
    v = joinBytes (s.byteAt (a + 1)) (s.byteAt a) ∧ trace = s.trace := by
  rw [hv, htrace, wordReadAt_of_readable h h', wordReadEvents_of_readable h h', List.append_nil]
  exact ⟨rfl, rfl⟩

end

/-! ## Loads from memory (R163 to R166) -/

theorem WordReg.value_load16At (w : WordReg) (a : Word) (s : State) :
    w.value (s.load16At a w.put) = wordReadAt a s := by
  rw [State.load16At, value_put, State.read16_word]

theorem WordReg.trace_load16At (w : WordReg) (a : Word) (s : State) :
    (s.load16At a w.put).trace = s.trace ++ wordReadEvents a s := by
  rw [State.load16At, trace_put, State.trace_read16]

/-- The result of a 16-bit load from memory: a next state where `w` holds the word read at `a` and the trace has the
reads; nothing else has changed but PC and the count of free values. -/
def LoadsWordAt (w : WordReg) (a : Word) (s : State) (x : Result) : Prop :=
  ∃ t, x = .next t ∧ w.value t = wordReadAt a s ∧ t.trace = s.trace ++ wordReadEvents a s ∧
    (s.readable a → s.readable (a + 1) →
      w.value t = joinBytes (s.byteAt (a + 1)) (s.byteAt a) ∧ t.trace = s.trace) ∧
    changesOnly (.pc :: .trace :: .draws :: w.pieces) s t

theorem loadsWordAt_load16At (w : WordReg) (a : Word) (s : State) (k : Word) :
    LoadsWordAt w a s (.next ((s.load16At a w.put).advance k)) := by
  have hword := (w.value_advance _ k).trans (w.value_load16At a s)
  have htrace := w.trace_load16At a s
  exact ⟨_, rfl, hword, htrace, wordRead_of_readable hword htrace, (s.frame_load16At w.frame_put a).advance k⟩

/-- Settles O30: each form gives the word read at `nn` to its own register. -/
theorem loadWordFromMemory : Obligations.LoadWordFromMemory := by
  unfold Obligations.LoadWordFromMemory
  intro p nn s
  simp only [List.forall_mem_cons]
  exact ⟨loadsWordAt_load16At (.dd .hl) nn s 3, loadsWordAt_load16At (.dd p) nn s 4, loadsWordAt_load16At .ix nn s 4,
    loadsWordAt_load16At .iy nn s 4, by simp⟩

/-! ## Writing two bytes (R61, R63, R65) -/

section
variable (s : State) {a b : Word} (hab : a ≠ b) (v w : Byte)
include hab

/-- Of two writes at different addresses the first has landed: the second leaves it alone. -/
theorem State.landed_write8_write8_first : landed a v s ((s.write8 a v).write8 b w) := by
  rw [landed, State.byteAt_write8, if_neg fun h => hab h.1]
  exact s.landed_write8 a v

/-- Of two writes at different addresses the second has landed: the map and its byte were as before the first. -/
theorem State.landed_write8_write8_second : landed b w s ((s.write8 a v).write8 b w) := by
  have hkeep : (s.write8 a v).byteAt b = s.byteAt b := by
    rw [State.byteAt_write8, if_neg fun h => hab h.1.symm]
  have hlanded := (s.write8 a v).landed_write8 b w
  rwa [landed, State.write8_kindAt, hkeep] at hlanded

end

theorem State.trace_write16 (s : State) (a v : Word) :
    (s.write16 a v).trace = s.trace ++ writeEvents a (loByte v) s ++ writeEvents (a + 1) (hiByte v) s := by
  rw [State.write16, State.trace_write8, State.trace_write8]
  simp [writeEvents]

/-! ## Stores (R167 to R170) -/

/-- The result of a 16-bit store: a next state where the bytes of `v` have landed at `a` and `a + 1`, the trace has the
writes, low byte first, and nothing has changed but those bytes, the trace and PC. -/
def StoresWordAt (a v : Word) (s : State) (x : Result) : Prop :=
  ∃ t, x = .next t ∧ landed a (loByte v) s t ∧ landed (a + 1) (hiByte v) s t ∧
    t.trace = s.trace ++ writeEvents a (loByte v) s ++ writeEvents (a + 1) (hiByte v) s ∧
    changesOnly [.pc, .trace, .byte a, .byte (a + 1)] s t

theorem storesWordAt_write16 (a v : Word) (s : State) (k : Word) :
    StoresWordAt a v s (.next ((s.write16 a v).advance k)) := by
  have hne : a ≠ a + 1 := by bv_omega
  exact ⟨_, rfl, s.landed_write8_write8_first hne _ _, s.landed_write8_write8_second hne _ _, s.trace_write16 a v,
    ((s.frame_write16 a v).advance k).mono (by simp)⟩

/-- Settles O31: each form stores its own register at `nn`. -/
theorem storeWord : Obligations.StoreWord := by
  unfold Obligations.StoreWord
  intro p nn s
  simp only [List.forall_mem_cons]
  exact ⟨storesWordAt_write16 nn _ s 3, storesWordAt_write16 nn _ s 4, storesWordAt_write16 nn _ s 4,
    storesWordAt_write16 nn _ s 4, by simp⟩

/-! ## PUSH (R174 to R176) -/

/-- The result of a push by an instruction of `k` bytes: a next state where the bytes of `v` have landed below SP, the
trace has the writes, high byte first, SP has fallen by 2, and nothing else has changed but PC. -/
def PushesWord (v k : Word) (s : State) (x : Result) : Prop :=
  ∃ t, x = .next t ∧ t.sp = s.sp - 2 ∧ t.pc = s.pc + k ∧
    landed (s.sp - 1) (hiByte v) s t ∧ landed (s.sp - 2) (loByte v) s t ∧
    t.trace = s.trace ++ writeEvents (s.sp - 1) (hiByte v) s ++ writeEvents (s.sp - 2) (loByte v) s ∧
    changesOnly [.pc, .sp, .trace, .byte (s.sp - 1), .byte (s.sp - 2)] s t

theorem pushesWord_push16 (v : Word) (s : State) (k : Word) :
    PushesWord v k s (.next ((s.push16 v).advance k)) := by
  have hne : s.sp - 1 ≠ s.sp - 2 := by bv_omega
  have hpc : ((s.push16 v).advance k).pc = s.pc + k := by rw [State.advance_pc, State.push16_pc]
  exact ⟨_, rfl, s.push16_sp v, hpc, s.landed_write8_write8_first hne _ _, s.landed_write8_write8_second hne _ _,
    s.trace_push16 v, ((s.frame_push16 v).advance k).mono (by simp)⟩

/-- Settles O32: the six encodings are read off the encoder, and each form pushes its own register. -/
theorem pushWord : Obligations.PushWord := by
  unfold Obligations.PushWord
  refine ⟨rfl, rfl, rfl, fun q s => ?_⟩
  simp only [List.forall_mem_cons]
  exact ⟨pushesWord_push16 _ s 1, pushesWord_push16 _ s 2, pushesWord_push16 _ s 2, by simp⟩

/-! ## POP (R177 to R180) -/

theorem State.trace_pop16 (s : State) : s.pop16.2.trace = s.trace ++ wordReadEvents s.sp s := s.trace_read16 s.sp

theorem WordReg.value_popInto (w : WordReg) (s : State) : w.value (s.popInto w.put) = wordReadAt s.sp s :=
  w.value_put _ _

theorem WordReg.trace_popInto (w : WordReg) (s : State) :
    (s.popInto w.put).trace = s.trace ++ wordReadEvents s.sp s := by
  rw [State.popInto, trace_put, State.trace_pop16]

theorem WordReg.sp_popInto {w : WordReg} (hw : Piece.sp ∉ w.pieces) (s : State) :
    (s.popInto w.put).sp = s.sp + 2 := by
  rw [State.popInto, sp_put hw, State.pop16_sp]

/-- The result of a pop: a next state where `w` holds the word read at SP, the trace has the reads and SP has risen
by 2; nothing else has changed but PC and the count of free values. -/
def PopsWord (w : WordReg) (s : State) (x : Result) : Prop :=
  ∃ t, x = .next t ∧ w.value t = wordReadAt s.sp s ∧ t.sp = s.sp + 2 ∧
    t.trace = s.trace ++ wordReadEvents s.sp s ∧
    (s.readable s.sp → s.readable (s.sp + 1) →
      w.value t = joinBytes (s.byteAt (s.sp + 1)) (s.byteAt s.sp) ∧ t.trace = s.trace) ∧
    changesOnly (.pc :: .sp :: .trace :: .draws :: w.pieces) s t

theorem popsWord_popInto {w : WordReg} (hw : Piece.sp ∉ w.pieces) (s : State) (k : Word) :
    PopsWord w s (.next ((s.popInto w.put).advance k)) := by
  have hword := (w.value_advance _ k).trans (w.value_popInto s)
  have htrace := w.trace_popInto s
  exact ⟨_, rfl, hword, WordReg.sp_popInto hw s, htrace, wordRead_of_readable hword htrace,
    (s.frame_popInto w.frame_put).advance k⟩

/-- Settles O33: each form pops into its own register, which is never SP; for AF the pieces of the register are A and
all of F (R180). -/
theorem popWord : Obligations.PopWord := by
  unfold Obligations.PopWord
  intro q s
  have hsp : Piece.sp ∉ (WordReg.qq q).pieces := by cases q <;> decide
  simp only [List.forall_mem_cons]
  exact ⟨popsWord_popInto hsp s 1, popsWord_popInto (w := .ix) (by decide) s 2,
    popsWord_popInto (w := .iy) (by decide) s 2, by simp⟩

end Sys2Proof.Machine
end

section
/-!
PROOF of O35 to O38: exchanges, and one iteration of the block transfers and block searches (R190 to R204).

As for the loads, each instruction is one operation (an exchange, `State.exchangeTop`, `State.blockLoad`,
`State.blockCompare`) and then the move of PC; the result of each operation is said once. A block instruction that does
not repeat is one that repeats while `false`, so that the four forms of a block operation share one lemma.
-/

namespace Sys2Proof.Machine

theorem changesOnly.repeatWhile {ps : List Piece} {s t : State} (h : changesOnly ps s t) (again : Bool) :
    changesOnly (.pc :: ps) s (t.repeatWhile again) :=
  (h.mono (List.subset_cons_self _ _)).andThen (t.frame_repeatWhile again) (by simp)

/-! ## Exchanges of registers (R190 to R192) -/

section
variable (s : State)

/-- `EX DE,HL` before PC moves. -/
theorem State.frame_setDE_setHL (v w : Word) :
    changesOnly [.reg .d, .reg .e, .reg .h, .reg .l] s ((s.setDE v).setHL w) :=
  ((s.frame_setDE v).mono (by simp)).andThen (State.frame_setHL _ w) (by simp)

/-- `EX AF,AF'` before PC moves. -/
theorem State.frame_exchangeAF :
    changesOnly [.reg .a, .f, .altA, .altF] s { s with a := s.a', f := s.f', a' := s.a, f' := s.f } := by
  intro p hp
  cases p with
  | reg q =>
    cases q with
    | a => simp at hp
    | _ => rfl
  | f | altA | altF => simp at hp
  | _ => rfl

/-- `EXX` before PC moves. -/
theorem State.frame_exchangeAll :
    changesOnly
      [.reg .b, .reg .c, .reg .d, .reg .e, .reg .h, .reg .l, .altB, .altC, .altD, .altE, .altH, .altL] s
      { s with
        b := s.b', c := s.c', d := s.d', e := s.e', h := s.h', l := s.l'
        b' := s.b, c' := s.c, d' := s.d, e' := s.e, h' := s.h, l' := s.l } := by
  intro p hp
  cases p with
  | reg q =>
    cases q with
    | a => rfl
    | _ => simp at hp
  | altB | altC | altD | altE | altH | altL => simp at hp
  | _ => rfl

end

/-- Settles O35: what each exchange writes is read off the state, and its frame is followed by that of `advance`. -/
theorem exchangeRegisters : Obligations.ExchangeRegisters := by
  unfold Obligations.ExchangeRegisters
  refine ⟨rfl, rfl, rfl, fun s => ⟨⟨_, rfl, rfl, ?_, ?_, ?_⟩, ⟨_, rfl, rfl, rfl, rfl, rfl, rfl, ?_⟩,
    ⟨_, rfl, rfl, rfl, rfl, rfl, rfl, rfl, rfl, rfl, rfl, rfl, rfl, rfl, rfl, ?_⟩⟩⟩
  · simp
  · simp
  · exact ((s.frame_setDE_setHL s.hl s.de).advance 1).mono (by simp)
  · exact (s.frame_exchangeAF.advance 1).mono (by simp)
  · exact (s.frame_exchangeAll.advance 1).mono (by simp)

/-! ## Exchanges with the top of the stack (R193 to R195) -/

namespace WordReg
variable (w : WordReg)

/-- No byte of memory is part of a register. -/
theorem byte_notMem_pieces (a : Word) : Piece.byte a ∉ w.pieces := by
  cases w with
  | dd p => cases p <;> simp [WordReg.pieces]
  | qq q => cases q <;> simp [WordReg.pieces]
  | ix | iy => simp [WordReg.pieces]

@[simp] theorem byteAt_put (a v : Word) (s : State) : (w.put v s).byteAt a = s.byteAt a :=
  w.frame_put v s (.byte a) (w.byte_notMem_pieces a)

theorem value_exchangeTop (old : Word) (s : State) :
    w.value (s.exchangeTop old w.put) = wordReadAt s.sp s := by
  rw [State.exchangeTop, value_put, State.read16_word]

theorem trace_exchangeTop (old : Word) (s : State) :
    (s.exchangeTop old w.put).trace =
      s.trace ++ wordReadEvents s.sp s ++ writeEvents (s.sp + 1) (hiByte old) s ++
        writeEvents s.sp (loByte old) s := by
  rw [State.exchangeTop, trace_put, State.trace_write8, State.trace_write8, State.trace_read16]
  simp [writeEvents]

end WordReg

/-- A byte that has landed after a 16-bit read has landed after the state before it: a read changes no memory. -/
theorem landed_of_landed_read16 {s t : State} {a b : Word} {v : Byte} (h : landed a v (s.read16 b).2 t) :
    landed a v s t := by
  rwa [landed, State.read16_kindAt, State.read16_byteAt] at h

theorem WordReg.landed_low_exchangeTop (w : WordReg) (old : Word) (s : State) :
    landed s.sp (loByte old) s (s.exchangeTop old w.put) := by
  have hne : s.sp + 1 ≠ s.sp := by bv_omega
  rw [landed, State.exchangeTop, byteAt_put]
  exact landed_of_landed_read16 (State.landed_write8_write8_second _ hne _ _)

theorem WordReg.landed_high_exchangeTop (w : WordReg) (old : Word) (s : State) :
    landed (s.sp + 1) (hiByte old) s (s.exchangeTop old w.put) := by
  have hne : s.sp + 1 ≠ s.sp := by bv_omega
  rw [landed, State.exchangeTop, byteAt_put]
  exact landed_of_landed_read16 (State.landed_write8_write8_first _ hne _ _)

/-- The result of an exchange of `w` with the top of the stack: a next state where `w` holds the word read at SP, the
bytes `w` held have landed there, the trace has the four accesses, and nothing else has changed but PC and the count of
free values. -/
def ExchangesTop (w : WordReg) (s : State) (x : Result) : Prop :=
  ∃ t, x = .next t ∧ w.value t = wordReadAt s.sp s ∧
    landed s.sp (loByte (w.value s)) s t ∧ landed (s.sp + 1) (hiByte (w.value s)) s t ∧
    t.trace = s.trace ++ wordReadEvents s.sp s ++ writeEvents (s.sp + 1) (hiByte (w.value s)) s ++
      writeEvents s.sp (loByte (w.value s)) s ∧
    changesOnly (.pc :: .trace :: .draws :: .byte s.sp :: .byte (s.sp + 1) :: w.pieces) s t

theorem exchangesTop_exchangeTop (w : WordReg) (s : State) (k : Word) :
    ExchangesTop w s (.next ((s.exchangeTop (w.value s) w.put).advance k)) := by
  have hframe := (s.frame_exchangeTop w.frame_put (w.value s)).advance k
  exact ⟨_, rfl, (w.value_advance _ k).trans (w.value_exchangeTop _ s), w.landed_low_exchangeTop _ s,
    w.landed_high_exchangeTop _ s, w.trace_exchangeTop _ s,
    hframe.mono fun p hp => by simp only [List.mem_cons] at hp ⊢; tauto⟩

/-- Settles O36: each form exchanges its own register. -/
theorem exchangeTopOfStack : Obligations.ExchangeTopOfStack := by
  unfold Obligations.ExchangeTopOfStack
  intro s
  simp only [List.forall_mem_cons]
  exact ⟨exchangesTop_exchangeTop (.dd .hl) s 1, exchangesTop_exchangeTop .ix s 2,
    exchangesTop_exchangeTop .iy s 2, by simp⟩

/-! ## One block transfer (R196 to R199) -/

section
variable (s : State) (delta : Word)

theorem State.landed_blockLoad : landed s.de (s.read8 s.hl).1 s (s.blockLoad delta) := by
  have h := (s.read8 s.hl).2.landed_write8 s.de (s.read8 s.hl).1
  rwa [landed, State.read8_kindAt, State.read8_byteAt] at h

@[simp] theorem State.blockLoad_de : (s.blockLoad delta).de = s.de + delta := by
  simp [State.blockLoad, State.blockLoadFlags]

@[simp] theorem State.blockLoad_hl : (s.blockLoad delta).hl = s.hl + delta := by
  simp [State.blockLoad, State.blockLoadFlags]

@[simp] theorem State.blockLoad_bc : (s.blockLoad delta).bc = s.bc - 1 := by
  simp [State.blockLoad, State.blockLoadFlags]

@[simp] theorem State.blockLoad_pc : (s.blockLoad delta).pc = s.pc := s.frame_blockLoad delta .pc (by simp)

@[simp] theorem State.blockLoad_flags :
    (s.blockLoad delta).flags = { s.flags with h := false, pv := s.bc - 1 != 0, n := false } := by
  simp [State.blockLoad, State.blockLoadFlags]

theorem State.trace_blockLoad :
    (s.blockLoad delta).trace = s.trace ++ readEvents s.hl s ++ writeEvents s.de (s.read8 s.hl).1 s := by
  have h : (s.blockLoad delta).trace = ((s.read8 s.hl).2.write8 s.de (s.read8 s.hl).1).trace := rfl
  rw [h, State.trace_write8, State.trace_read8]
  simp [writeEvents]

theorem State.landed_repeatedLoad (again : Bool) :
    landed s.de (s.read8 s.hl).1 s ((s.blockLoad delta).repeatWhile again) := by
  rw [landed, State.repeatWhile_byteAt]
  exact s.landed_blockLoad delta

theorem State.frame_repeatedLoad (again : Bool) :
    changesOnly [.byte s.de, .reg .b, .reg .c, .reg .d, .reg .e, .reg .h, .reg .l, .f, .pc, .trace, .draws] s
      ((s.blockLoad delta).repeatWhile again) :=
  ((s.frame_blockLoad delta).repeatWhile again).mono (by simp)

end

/-- The result of a block transfer (R196, R198), DE and HL moving by `delta`; one that `repeats` leaves PC where it is
while BC is not 0 (R204). -/
def TransfersByte (delta : Word) (repeats : Bool) (s : State) (x : Result) : Prop :=
  ∃ t, x = .next t ∧ landed s.de (s.read8 s.hl).1 s t ∧
    t.de = s.de + delta ∧ t.hl = s.hl + delta ∧ t.bc = s.bc - 1 ∧
    (t.flags.pv = true ↔ t.bc ≠ 0) ∧ t.flags.h = false ∧ t.flags.n = false ∧
    t.flags.s = s.flags.s ∧ t.flags.z = s.flags.z ∧ t.flags.c = s.flags.c ∧
    t.pc = (if repeats = true ∧ t.bc ≠ 0 then s.pc else s.pc + 2) ∧
    t.trace = s.trace ++ readEvents s.hl s ++ writeEvents s.de (s.read8 s.hl).1 s ∧
    changesOnly [.byte s.de, .reg .b, .reg .c, .reg .d, .reg .e, .reg .h, .reg .l, .f, .pc, .trace, .draws] s t

theorem transfersByte_blockLoad (delta : Word) (repeats : Bool) (s : State) :
    TransfersByte delta repeats s
      (.next ((s.blockLoad delta).repeatWhile (repeats && (s.blockLoad delta).bc != 0))) := by
  have hlanded := s.landed_repeatedLoad delta (repeats && (s.blockLoad delta).bc != 0)
  have hframe := s.frame_repeatedLoad delta (repeats && (s.blockLoad delta).bc != 0)
  have hrest := And.intro (s.trace_blockLoad delta) hframe
  exact ⟨_, rfl, hlanded, by simpa using hrest⟩

/-- Settles O37: two moves of DE and HL, each once and repeating. -/
theorem blockTransfer : Obligations.BlockTransfer := by
  unfold Obligations.BlockTransfer
  intro s
  change ∀ x : Instr × Word × Bool, x ∈ _ → TransfersByte x.2.1 x.2.2 s (exec x.1 s)
  simp only [List.forall_mem_cons]
  exact ⟨transfersByte_blockLoad 1 false s, transfersByte_blockLoad 1 true s, transfersByte_blockLoad (-1) false s,
    transfersByte_blockLoad (-1) true s, by simp⟩

/-! ## One block comparison (R200 to R203) -/

/-- A difference without a borrow in is that of the bytes modulo 256. -/
theorem res_sub8_false (a v : Byte) : (sub8 a v false).res = a - v := by
  apply BitVec.eq_of_toNat_eq
  simp [sub8, subWith, BitVec.toNat_sub]
  omega

/-- H of a difference without a borrow in: a borrow from bit 4. -/
theorem hc_sub8_false (a v : Byte) : (sub8 a v false).hc = decide (a.toNat % 16 < v.toNat % 16) := rfl

section
variable (s : State) (delta : Word)

@[simp] theorem State.blockCompare_hl : (s.blockCompare delta).hl = s.hl + delta := by
  simp [State.blockCompare]

@[simp] theorem State.blockCompare_bc : (s.blockCompare delta).bc = s.bc - 1 := by
  simp [State.blockCompare]

@[simp] theorem State.blockCompare_pc : (s.blockCompare delta).pc = s.pc := s.frame_blockCompare delta .pc (by simp)

/-- All six flags after a block comparison: S, Z and H of the difference, P/V of BC, C as before. -/
@[simp] theorem State.blockCompare_flags :
    (s.blockCompare delta).flags =
      { s := (s.a - (s.read8 s.hl).1).msb, z := s.a - (s.read8 s.hl).1 == 0,
        h := decide (s.a.toNat % 16 < (s.read8 s.hl).1.toNat % 16), pv := s.bc - 1 != 0, n := true,
        c := s.flags.c } := by
  simp [State.blockCompare, res_sub8_false, hc_sub8_false]

theorem State.trace_blockCompare : (s.blockCompare delta).trace = s.trace ++ readEvents s.hl s :=
  s.trace_read8 s.hl

theorem State.frame_repeatedCompare (again : Bool) :
    changesOnly [.reg .b, .reg .c, .reg .h, .reg .l, .f, .pc, .trace, .draws] s
      ((s.blockCompare delta).repeatWhile again) :=
  ((s.frame_blockCompare delta).repeatWhile again).mono (by simp)

end

/-- The result of a block comparison (R200, R202), HL moving by `delta`; one that `repeats` leaves PC where it is while
BC is not 0 and no match was found (R204). -/
def ComparesByte (delta : Word) (repeats : Bool) (s : State) (x : Result) : Prop :=
  ∃ t, x = .next t ∧ t.hl = s.hl + delta ∧ t.bc = s.bc - 1 ∧
    (t.flags.z = true ↔ s.a = (s.read8 s.hl).1) ∧
    t.flags.s = (s.a - (s.read8 s.hl).1).msb ∧
    (t.flags.h = true ↔ s.a.toNat % 16 < (s.read8 s.hl).1.toNat % 16) ∧
    (t.flags.pv = true ↔ t.bc ≠ 0) ∧ t.flags.n = true ∧ t.flags.c = s.flags.c ∧
    t.pc = (if repeats = true ∧ t.bc ≠ 0 ∧ s.a ≠ (s.read8 s.hl).1 then s.pc else s.pc + 2) ∧
    t.trace = s.trace ++ readEvents s.hl s ∧
    changesOnly [.reg .b, .reg .c, .reg .h, .reg .l, .f, .pc, .trace, .draws] s t

theorem comparesByte_blockCompare (delta : Word) (repeats : Bool) (s : State) :
    ComparesByte delta repeats s
      (.next ((s.blockCompare delta).repeatWhile
        (repeats && ((s.blockCompare delta).bc != 0 && !(s.blockCompare delta).flags.z)))) := by
  have hframe := s.frame_repeatedCompare delta
    (repeats && ((s.blockCompare delta).bc != 0 && !(s.blockCompare delta).flags.z))
  have hmatch : s.a - (s.read8 s.hl).1 = 0#8 ↔ s.a = (s.read8 s.hl).1 := by bv_omega
  have hrest := And.intro (s.trace_blockCompare delta) hframe
  exact ⟨_, rfl, by simpa [hmatch] using hrest⟩

/-- Settles O38: two moves of HL, each once and repeating. -/
theorem blockSearch : Obligations.BlockSearch := by
  unfold Obligations.BlockSearch
  intro s
  change ∀ x : Instr × Word × Bool, x ∈ _ → ComparesByte x.2.1 x.2.2 s (exec x.1 s)
  simp only [List.forall_mem_cons]
  exact ⟨comparesByte_blockCompare 1 false s, comparesByte_blockCompare 1 true s,
    comparesByte_blockCompare (-1) false s, comparesByte_blockCompare (-1) true s, by simp⟩

end Sys2Proof.Machine
end

section
/-!
PROOF of O39: `BC` iterations of LDIR copy the block.

By induction on the number of bytes left: one iteration is O37's, it leaves a block shorter by one to be copied
(`State.BlockAhead.tail`), and what the other iterations leave, put behind it, is the copy of the whole
(`BlockCopied.ofFirst`). The hypothesis that no byte is read after it was overwritten says that the first iteration has
not changed the rest of the source.
-/

namespace Sys2Proof.Machine

/-- A block of `n` bytes from HL that LDIR can copy to DE: the source answers reads, the destination is RAM, and no
source byte is one that an earlier iteration writes. -/
structure State.BlockAhead (n : Nat) (s : State) : Prop where
  source : ∀ k < n, s.readable (s.hl + BitVec.ofNat 16 k)
  destination : ∀ k < n, s.kindAt (s.de + BitVec.ofNat 16 k) = .ram
  unspoilt : ∀ j k, j < k → k < n → s.de + BitVec.ofNat 16 j ≠ s.hl + BitVec.ofNat 16 k

/-- What `n` iterations of LDIR leave, BC having been `n`: PC has moved on if there was one (R204). -/
structure BlockCopied (n : Nat) (s t : State) : Prop where
  bc : t.bc = 0
  hl : t.hl = s.hl + BitVec.ofNat 16 n
  de : t.de = s.de + BitVec.ofNat 16 n
  pc : t.pc = if n = 0 then s.pc else s.pc + 2
  trace : t.trace = s.trace
  copied : ∀ k < n, t.byteAt (s.de + BitVec.ofNat 16 k) = s.byteAt (s.hl + BitVec.ofNat 16 k)
  kept : ∀ a, (∀ k < n, a ≠ s.de + BitVec.ofNat 16 k) → t.byteAt a = s.byteAt a

/-- What one iteration of LDIR leaves, where memory answers at HL and takes the byte at DE. -/
structure ByteCopied (s t : State) : Prop where
  bc : t.bc = s.bc - 1
  hl : t.hl = s.hl + 1
  de : t.de = s.de + 1
  pc : t.pc = if t.bc = 0 then s.pc + 2 else s.pc
  trace : t.trace = s.trace
  copied : t.byteAt s.de = s.byteAt s.hl
  kept : ∀ a, a ≠ s.de → t.byteAt a = s.byteAt a
  memMap : t.memMap = s.memMap

/-- The address after the first is where the rest of a block begins. -/
theorem add_one_add_ofNat (a : Word) (k : Nat) : a + 1 + BitVec.ofNat 16 k = a + BitVec.ofNat 16 (k + 1) := by
  rw [BitVec.ofNat_add, BitVec.add_assoc, BitVec.add_comm 1]
  rfl

/-- One iteration of LDIR, from what it does in every state (`transfersByte_blockLoad`). -/
theorem exec_ldir_byteCopied {s : State} (hsource : s.readable s.hl) (hdest : s.kindAt s.de = .ram) :
    ∃ t, exec .ldir s = .next t ∧ ByteCopied s t := by
  obtain ⟨t, hexec, hlanded, hde, hhl, hbc, -, -, -, -, -, -, hpc, htrace, hframe⟩ :=
    transfersByte_blockLoad 1 true s
  have hread : readEvents s.hl s = [] := by
    rcases hsource with h | h <;> simp [readEvents, readEventsAfter, h]
  have hwrite : writeEvents s.de (s.read8 s.hl).1 s = [] := by simp [writeEvents, hdest]
  refine ⟨t, hexec, { bc := hbc, hl := hhl, de := hde, pc := ?_, trace := ?_, copied := ?_, kept := ?_, memMap := ?_ }⟩
  · simpa [ite_not] using hpc
  · simpa [hread, hwrite] using htrace
  · rwa [landed, if_pos hdest, s.read8_value _ hsource] at hlanded
  · exact fun a ha => hframe (.byte a) (by simpa using ha)
  · exact hframe .memMap (by simp)

namespace State.BlockAhead
variable {n : Nat} {s t : State}

theorem readable_hl (h : s.BlockAhead (n + 1)) : s.readable s.hl := by
  simpa using h.source 0 (by omega)

theorem kindAt_de (h : s.BlockAhead (n + 1)) : s.kindAt s.de = .ram := by
  simpa using h.destination 0 (by omega)

/-- The first byte is written where no later one is read. -/
theorem de_ne_source (h : s.BlockAhead (n + 1)) {k : Nat} (hk : k < n) : s.hl + BitVec.ofNat 16 (k + 1) ≠ s.de := by
  simpa using (h.unspoilt 0 (k + 1) (by omega) (by omega)).symm

/-- After the first byte, the rest of the block is still one that LDIR can copy. -/
theorem tail (h : s.BlockAhead (n + 1)) (ht : ByteCopied s t) : t.BlockAhead n where
  source k hk := by
    simpa only [State.readable, State.kindAt, ht.memMap, ht.hl, add_one_add_ofNat] using
      h.source (k + 1) (by omega)
  destination k hk := by
    simpa only [State.kindAt, ht.memMap, ht.de, add_one_add_ofNat] using h.destination (k + 1) (by omega)
  unspoilt j k hjk hk := by
    simpa only [ht.hl, ht.de, add_one_add_ofNat] using h.unspoilt (j + 1) (k + 1) (by omega) (by omega)

end State.BlockAhead

/-- No iteration, nothing copied. -/
theorem BlockCopied.zero {s : State} (hbc : s.bc.toNat = 0) : BlockCopied 0 s s where
  bc := BitVec.eq_of_toNat_eq hbc
  hl := by simp
  de := by simp
  pc := rfl
  trace := rfl
  copied := by simp
  kept _ _ := rfl

/-- The first byte of a block, and then the rest. -/
theorem BlockCopied.ofFirst {n : Nat} {s t u : State} (hn : n < 65535) (hs : s.BlockAhead (n + 1))
    (hbc : t.bc.toNat = n) (h : ByteCopied s t) (h' : BlockCopied n t u) : BlockCopied (n + 1) s u where
  bc := h'.bc
  hl := by rw [h'.hl, h.hl, add_one_add_ofNat]
  de := by rw [h'.de, h.de, add_one_add_ofNat]
  pc := by
    have hlast : t.bc = 0 ↔ n = 0 := by rw [← BitVec.toNat_inj, hbc]; rfl
    rw [h'.pc, h.pc, if_neg n.succ_ne_zero]
    simp only [hlast]
    split <;> rfl
  trace := h'.trace.trans h.trace
  copied k hk := by
    cases k with
    | zero =>
      have hnew : ∀ k < n, s.de ≠ t.de + BitVec.ofNat 16 k := by
        intro k hk
        rw [h.de]
        bv_omega
      simpa using (h'.kept s.de hnew).trans h.copied
    | succ k =>
      have hk : k < n := by omega
      have hsource := h.kept _ (hs.de_ne_source hk)
      simpa only [h.de, h.hl, add_one_add_ofNat, hsource] using h'.copied k hk
  kept a ha := by
    have hfirst : a ≠ s.de := by simpa using ha 0 (by omega)
    have hrest : ∀ k < n, a ≠ t.de + BitVec.ofNat 16 k := by
      intro k hk
      rw [h.de, add_one_add_ofNat]
      exact ha (k + 1) (by omega)
    exact (h'.kept a hrest).trans (h.kept a hfirst)

/-- `n` iterations of LDIR copy a block of `n` bytes. -/
theorem repeatExec_ldir_blockCopied (n : Nat) (s : State) (hbc : s.bc.toNat = n) (hs : s.BlockAhead n) :
    ∃ t, repeatExec .ldir n s = some t ∧ BlockCopied n s t := by
  induction n generalizing s with
  | zero => exact ⟨s, rfl, .zero hbc⟩
  | succ n ih =>
    obtain ⟨t, hexec, ht⟩ := exec_ldir_byteCopied hs.readable_hl hs.kindAt_de
    have htbc : t.bc.toNat = n := by rw [ht.bc]; bv_omega
    obtain ⟨u, hrun, hu⟩ := ih t htbc (hs.tail ht)
    have hrun' : repeatExec .ldir (n + 1) s = some u := by rw [repeatExec, hexec]; exact hrun
    exact ⟨u, hrun', .ofFirst (by omega) hs htbc ht hu⟩

/-- Settles O39: the block of BC bytes from HL is one that LDIR can copy, and BC is not 0. -/
theorem ldirCopiesBlock : Obligations.LdirCopiesBlock := by
  unfold Obligations.LdirCopiesBlock
  intro s hbc hkinds hunspoilt
  have hahead : s.BlockAhead s.bc.toNat :=
    { source := fun k hk => (hkinds k hk).1, destination := fun k hk => (hkinds k hk).2, unspoilt := hunspoilt }
  obtain ⟨t, hrun, ht⟩ := repeatExec_ldir_blockCopied _ s rfl hahead
  have hnz : s.bc.toNat ≠ 0 := fun h => hbc (BitVec.eq_of_toNat_eq h)
  refine ⟨t, hrun, ht.bc, ?_, ?_, ?_, ht.trace, ht.copied, ht.kept⟩
  · rw [ht.hl, BitVec.ofNat_toNat, BitVec.setWidth_eq]
  · rw [ht.de, BitVec.ofNat_toNat, BitVec.setWidth_eq]
  · rw [ht.pc, if_neg hnz]

end Sys2Proof.Machine
end

section
/-!
PROOF of O40 to O43, the arithmetic: what the model's sums, differences and parity are in whole numbers (R7, R238).

Overflow is proved at every width: both the sum and the difference are a signed number cut to the width, and a number
that is out of range by less than half wraps once (`toInt_ofInt_eq_wrapped`).
-/

namespace Sys2Proof.Machine

/-! ## Signed overflow (R7), at any width -/

theorem toInt_mem_range {w : Nat} (x : BitVec (w + 1)) : -2 ^ w ≤ x.toInt ∧ x.toInt < 2 ^ w :=
  ⟨x.le_toInt, x.toInt_lt⟩

/-- The signed value of a number cut to `w + 1` bits wraps once where the number is out of range by less than half. -/
theorem toInt_ofInt_eq_wrapped {w : Nat} {i : Int} (hlo : -2 * 2 ^ w ≤ i) (hhi : i < 2 * 2 ^ w) :
    (BitVec.ofInt (w + 1) i).toInt =
      if i < -2 ^ w then i + 2 * 2 ^ w else if i < 2 ^ w then i else i - 2 * 2 ^ w := by
  have hpow : ((2 ^ (w + 1) : Nat) : Int) = 2 * 2 ^ w := by push_cast; ring
  rw [BitVec.toInt_ofInt]
  split
  · rw [← Int.add_bmod_right, hpow]
    exact Int.bmod_eq_of_le_mul_two (by omega) (by omega)
  · split
    · exact Int.bmod_eq_of_le_mul_two (by omega) (by omega)
    · rw [← Int.sub_bmod_right, hpow]
      exact Int.bmod_eq_of_le_mul_two (by omega) (by omega)

section
variable (k : Nat) {w : Nat} (a b : BitVec (w + 1)) (cin : Bool)

theorem res_addWith : (addWith k a b cin).res = BitVec.ofInt (w + 1) (a.toInt + b.toInt + cin.toNat) := by
  simp [addWith, BitVec.ofInt_add, BitVec.ofNat_add]

theorem res_subWith : (subWith k a b cin).res = BitVec.ofInt (w + 1) (a.toInt - b.toInt - cin.toNat) := by
  simp [subWith, Int.sub_eq_add_neg, BitVec.ofInt_add, BitVec.ofInt_neg]

/-- The overflow of an addition, read off three sign bits, is that the signed sum is out of range. -/
theorem ov_addWith_iff :
    (addWith k a b cin).ov = true ↔
      a.toInt + b.toInt + cin.toNat < -2 ^ w ∨ 2 ^ w ≤ a.toInt + b.toInt + cin.toNat := by
  have hov : (addWith k a b cin).ov = (a.msb == b.msb && (addWith k a b cin).res.msb != a.msb) := rfl
  have ha := toInt_mem_range a
  have hb := toInt_mem_range b
  have hc := cin.toNat_le
  have hres := toInt_ofInt_eq_wrapped (w := w) (i := a.toInt + b.toInt + cin.toNat) (by omega) (by omega)
  simp only [hov, BitVec.msb_eq_toInt, res_addWith, hres, Bool.and_eq_true, beq_iff_eq, bne_iff_ne, ne_eq,
    decide_eq_decide]
  omega

/-- The overflow of a subtraction, read off three sign bits, is that the signed difference is out of range. -/
theorem ov_subWith_iff :
    (subWith k a b cin).ov = true ↔
      a.toInt - b.toInt - cin.toNat < -2 ^ w ∨ 2 ^ w ≤ a.toInt - b.toInt - cin.toNat := by
  have hov : (subWith k a b cin).ov = (a.msb != b.msb && (subWith k a b cin).res.msb != a.msb) := rfl
  have ha := toInt_mem_range a
  have hb := toInt_mem_range b
  have hc := cin.toNat_le
  have hres := toInt_ofInt_eq_wrapped (w := w) (i := a.toInt - b.toInt - cin.toNat) (by omega) (by omega)
  simp only [hov, BitVec.msb_eq_toInt, res_subWith, hres, Bool.and_eq_true, bne_iff_ne, ne_eq, decide_eq_decide]
  omega

end

/-! ## The results of `add8` and `sub8` with their flags (R7, R238), and parity -/

section
variable (a v : Byte) (cin : Bool)

theorem addOutcome_add8 : addOutcome a v cin (add8 a v cin).res (arithFlags (add8 a v cin) false) := by
  have hov := ov_addWith_iff 4 (w := 7) a v cin
  refine ⟨by simp [add8, addWith], signZero_of_msb_of_beq rfl rfl, by simp [arithFlags, add8, addWith], ?_, rfl⟩
  exact hov.trans (by omega)

theorem addCarry_add8 (n : Bool) : addCarry a v cin (arithFlags (add8 a v cin) n) := by
  simp [addCarry, arithFlags, add8, addWith]

theorem subOutcome_sub8 : subOutcome a v cin (sub8 a v cin).res (arithFlags (sub8 a v cin) true) := by
  have hov := ov_subWith_iff 4 (w := 7) a v cin
  refine ⟨?_, signZero_of_msb_of_beq rfl rfl, by simp [arithFlags, sub8, subWith], ?_, rfl⟩
  · simp only [sub8, subWith, BitVec.toNat_ofInt]
    omega
  · exact hov.trans (by omega)

theorem subCarry_sub8 (n : Bool) : subCarry a v cin (arithFlags (sub8 a v cin) n) := by
  simp [subCarry, arithFlags, sub8, subWith]

end

/-- Counting ones by halving is counting the set bits. -/
theorem countOnes_eq_countP (n v : Nat) : countOnes n v = (List.range n).countP v.testBit := by
  induction n generalizing v with
  | zero => rfl
  | succ n ih =>
    have hrest : (List.range n).countP (v / 2).testBit = (List.range n).countP (v.testBit ∘ Nat.succ) := by
      simp [Function.comp_def, Nat.testBit_succ]
    rw [countOnes, ih, hrest, List.range_succ_eq_map, List.countP_cons, List.countP_map, Nat.testBit_zero]
    rcases Nat.mod_two_eq_zero_or_one v with h | h <;> simp [h, Nat.add_comm]

theorem parity8_eq_evenParity (v : Byte) : parity8 v = evenParity v := by
  rw [parity8, countOnes_eq_countP]
  rfl

theorem parityOutcome_logicFlags (res : Byte) (h : Bool) : parityOutcome res (logicFlags res h) :=
  ⟨signZero_of_msb_of_beq rfl rfl, parity8_eq_evenParity res, rfl⟩

end Sys2Proof.Machine
end

section
/-!
PROOF of O40 to O43: the 8-bit arithmetic and logic (R221 to R237).

An instruction of this group gets an operand, does an operation with it, and moves PC. What getting the operand does
(`Source.after`) and what writing a result back does (`Place.update`) is said once for every operand form, and what an
operation makes of A and the flags once for each operation (`AluOp.apply`); an obligation puts the two together.
-/

namespace Sys2Proof.Machine

/-! ## Reading an operand (R220) -/

/-- The state after the access that gets a source operand: the read of a memory operand, else nothing. -/
def Source.after : Source → State → State
  | .reg _, s => s
  | .imm _, s => s
  | .atHL, s => (s.read8 s.hl).2
  | .atIX d, s => (s.read8 (s.addrIX d)).2
  | .atIY d, s => (s.read8 (s.addrIY d)).2

/-- How many bytes an instruction of this group with the operand has (R221 to R237). -/
def Source.instrLength : Source → Word
  | .reg _ => 1
  | .imm _ => 2
  | .atHL => 1
  | .atIX _ => 3
  | .atIY _ => 3

namespace Source
variable (x : Source) (s : State)

theorem frame_after : changesOnly x.touches s (x.after s) := by
  cases x with
  | reg r => exact changesOnly.refl _ s
  | imm n => exact changesOnly.refl _ s
  | atHL => exact s.frame_read8 s.hl
  | atIX d => exact s.frame_read8 (s.addrIX d)
  | atIY d => exact s.frame_read8 (s.addrIY d)

theorem touches_subset : x.touches ⊆ [.trace, .draws] := by
  cases x <;> simp [touches]

theorem trace_after : (x.after s).trace = s.trace ++ x.events s := by
  cases x with
  | reg r => exact (List.append_nil _).symm
  | imm n => exact (List.append_nil _).symm
  | atHL => exact s.trace_read8 s.hl
  | atIX d => exact s.trace_read8 (s.addrIX d)
  | atIY d => exact s.trace_read8 (s.addrIY d)

@[simp] theorem after_a : (x.after s).a = s.a :=
  x.frame_after s (.reg .a) fun h => by simpa using x.touches_subset h

@[simp] theorem after_flags : (x.after s).flags = s.flags :=
  congrArg flagBits (x.frame_after s .f fun h => by simpa using x.touches_subset h)

end Source

/-! ## Operations on A and an operand byte (R221 to R232) -/

/-- The model's operation of each kind. -/
def AluOp.apply : AluOp → Byte → State → State
  | .add => State.opAdd
  | .adc => State.opAdc
  | .sub => State.opSub
  | .sbc => State.opSbc
  | .and => State.opAnd
  | .or => State.opOr
  | .xor => State.opXor
  | .cp => State.opCp

/-- The registers that an operation writes: CP leaves A (R232). -/
def AluOp.writes : AluOp → List Piece
  | .cp => [.f]
  | _ => [.reg .a, .f]

namespace AluOp
variable (op : AluOp)

/-- Every form of every operation: get the operand, apply the operation, move PC on. -/
theorem exec_instr (x : Source) (s : State) :
    exec (op.instr x) s = .next ((op.apply (x.value s) (x.after s)).advance x.instrLength) := by
  cases x with
  | reg r => cases op <;> rfl
  | imm n => cases op <;> rfl
  | atHL => cases op <;> rfl
  | atIX d => cases op <;> rfl
  | atIY d => cases op <;> rfl

theorem frame_apply (v : Byte) (s : State) : changesOnly (.draws :: op.writes) s (op.apply v s) := by
  cases op with
  | add => exact (s.frame_opAdd v).mono (by simp [writes])
  | adc => exact (s.frame_opAdc v).mono (by simp [writes])
  | sub => exact (s.frame_opSub v).mono (by simp [writes])
  | sbc => exact (s.frame_opSbc v).mono (by simp [writes])
  | and => exact (s.frame_opAnd v).mono (by simp [writes])
  | or => exact (s.frame_opOr v).mono (by simp [writes])
  | xor => exact (s.frame_opXor v).mono (by simp [writes])
  | cp => exact (s.frame_opCp v).mono (by simp [writes])

theorem trace_apply (v : Byte) (s : State) : (op.apply v s).trace = s.trace :=
  op.frame_apply v s .trace (by cases op <;> simp [writes])

/-- What an operation makes of A and the flags depends on A and the flags alone. -/
theorem apply_congr (v : Byte) {s t : State} (ha : t.a = s.a) (hf : t.flags = s.flags) :
    (op.apply v t).a = (op.apply v s).a ∧ (op.apply v t).flags = (op.apply v s).flags := by
  cases op <;>
    simp [apply, State.opAdd, State.opAdc, State.opSub, State.opSbc, State.opAnd, State.opOr, State.opXor, State.opCp,
      State.addToA, State.subFromA, State.logicToA, State.compareA, ha, hf]

/-- Every form of every operation, seen from the state before it: A and the flags are those of the operation on the
operand's value, what reading the operand does is added to the trace, and only what the operation writes changes. -/
theorem exec_instr_next (x : Source) (s : State) :
    ∃ t, exec (op.instr x) s = .next t ∧ t.a = (op.apply (x.value s) s).a ∧
      t.flags = (op.apply (x.value s) s).flags ∧ t.trace = s.trace ++ x.events s ∧
      changesOnly (op.writes ++ .pc :: .draws :: x.touches) s t := by
  obtain ⟨ha, hf⟩ := op.apply_congr (x.value s) (x.after_a s) (x.after_flags s)
  have htrace := (op.trace_apply (x.value s) (x.after s)).trans (x.trace_after s)
  have hread : changesOnly (.draws :: op.writes ++ x.touches) s (x.after s) :=
    (x.frame_after s).mono (List.subset_append_right _ _)
  have happly := hread.andThen (op.frame_apply (x.value s) _) (List.subset_append_left _ _)
  refine ⟨_, op.exec_instr x s, ha, hf, htrace, (happly.advance _).mono ?_⟩
  intro p hp
  simp only [List.mem_cons, List.mem_append] at hp ⊢
  tauto

end AluOp

/-- The result of ADD and ADC, `cin` being the carry in (R221, R226). -/
def AddsToA (x : Source) (cin : Bool) (s : State) (r : Result) : Prop :=
  ∃ t, r = .next t ∧ addOutcome s.a (x.value s) cin t.a t.flags ∧ addCarry s.a (x.value s) cin t.flags ∧
    t.trace = s.trace ++ x.events s ∧ changesOnly (.reg .a :: .f :: .pc :: .draws :: x.touches) s t

/-- The result of SUB and SBC, `cin` being the borrow in (R227, R228). -/
def SubtractsFromA (x : Source) (cin : Bool) (s : State) (r : Result) : Prop :=
  ∃ t, r = .next t ∧ subOutcome s.a (x.value s) cin t.a t.flags ∧ subCarry s.a (x.value s) cin t.flags ∧
    t.trace = s.trace ++ x.events s ∧ changesOnly (.reg .a :: .f :: .pc :: .draws :: x.touches) s t

/-- The result of AND, OR and XOR, `res` being the bitwise result and `h` the half carry written (R229 to R231). -/
def PutsLogic (x : Source) (res : Byte) (h : Bool) (s : State) (r : Result) : Prop :=
  ∃ t, r = .next t ∧ t.a = res ∧ parityOutcome res t.flags ∧ t.flags.h = h ∧ t.flags.c = false ∧
    t.trace = s.trace ++ x.events s ∧ changesOnly (.reg .a :: .f :: .pc :: .draws :: x.touches) s t

theorem State.a_flags_addToA (s : State) (cin : Bool) (v : Byte) :
    (s.addToA cin v).a = (add8 s.a v cin).res ∧ (s.addToA cin v).flags = arithFlags (add8 s.a v cin) false :=
  ⟨rfl, State.flags_writeFlags _ _⟩

theorem State.a_flags_subFromA (s : State) (cin : Bool) (v : Byte) :
    (s.subFromA cin v).a = (sub8 s.a v cin).res ∧ (s.subFromA cin v).flags = arithFlags (sub8 s.a v cin) true :=
  ⟨rfl, State.flags_writeFlags _ _⟩

theorem State.a_flags_logicToA (s : State) (res : Byte) (h : Bool) :
    (s.logicToA res h).a = res ∧ (s.logicToA res h).flags = logicFlags res h :=
  ⟨rfl, State.flags_writeFlags _ _⟩

theorem State.flags_opCp (s : State) (v : Byte) : (s.opCp v).flags = arithFlags (sub8 s.a v false) true :=
  s.flags_writeFlags _

section
variable {op : AluOp} {x : Source} {s : State}

/-- An operation that is an addition to A gives its sum and flags in every operand form. -/
theorem exec_addsToA {cin : Bool} (happly : op.apply (x.value s) s = s.addToA cin (x.value s))
    (hwrites : op.writes = [.reg .a, .f]) : AddsToA x cin s (exec (op.instr x) s) := by
  obtain ⟨t, hexec, ha, hf, htrace, hframe⟩ := op.exec_instr_next x s
  obtain ⟨hsum, hflags⟩ := s.a_flags_addToA cin (x.value s)
  rw [happly] at ha hf
  rw [hwrites] at hframe
  refine ⟨t, hexec, ?_, ?_, htrace, hframe⟩
  · rw [ha, hf, hsum, hflags]
    exact addOutcome_add8 s.a (x.value s) cin
  · rw [hf, hflags]
    exact addCarry_add8 s.a (x.value s) cin false

/-- An operation that is a subtraction from A gives its difference and flags in every operand form. -/
theorem exec_subtractsFromA {cin : Bool} (happly : op.apply (x.value s) s = s.subFromA cin (x.value s))
    (hwrites : op.writes = [.reg .a, .f]) : SubtractsFromA x cin s (exec (op.instr x) s) := by
  obtain ⟨t, hexec, ha, hf, htrace, hframe⟩ := op.exec_instr_next x s
  obtain ⟨hdiff, hflags⟩ := s.a_flags_subFromA cin (x.value s)
  rw [happly] at ha hf
  rw [hwrites] at hframe
  refine ⟨t, hexec, ?_, ?_, htrace, hframe⟩
  · rw [ha, hf, hdiff, hflags]
    exact subOutcome_sub8 s.a (x.value s) cin
  · rw [hf, hflags]
    exact subCarry_sub8 s.a (x.value s) cin true

/-- An operation that puts a bitwise result into A gives it and its flags in every operand form. -/
theorem exec_putsLogic {res : Byte} {h : Bool} (happly : op.apply (x.value s) s = s.logicToA res h)
    (hwrites : op.writes = [.reg .a, .f]) : PutsLogic x res h s (exec (op.instr x) s) := by
  obtain ⟨t, hexec, ha, hf, htrace, hframe⟩ := op.exec_instr_next x s
  obtain ⟨hres, hflags⟩ := s.a_flags_logicToA res h
  rw [happly] at ha hf
  rw [hwrites] at hframe
  refine ⟨t, hexec, ha.trans hres, ?_⟩
  rw [hf, hflags]
  exact ⟨parityOutcome_logicFlags res h, rfl, rfl, htrace, hframe⟩

end

/-- Settles O40: ADD adds without a carry, ADC with the old one. -/
theorem addToA : Obligations.AddToA := by
  unfold Obligations.AddToA
  intro x s
  change ∀ p : AluOp × Bool, p ∈ _ → AddsToA x p.2 s (exec (p.1.instr x) s)
  simp only [List.forall_mem_cons]
  exact ⟨exec_addsToA rfl rfl, exec_addsToA rfl rfl, by simp⟩

/-- Settles O41: SUB subtracts without a borrow, SBC with the old carry; CP has the flags of SUB. -/
theorem subtractFromA : Obligations.SubtractFromA := by
  unfold Obligations.SubtractFromA
  intro x s
  constructor
  · change ∀ p : AluOp × Bool, p ∈ _ → SubtractsFromA x p.2 s (exec (p.1.instr x) s)
    simp only [List.forall_mem_cons]
    exact ⟨exec_subtractsFromA rfl rfl, exec_subtractsFromA rfl rfl, by simp⟩
  · obtain ⟨t, hexec, -, hf, htrace, hframe⟩ := AluOp.cp.exec_instr_next x s
    have hflags := hf.trans (s.flags_opCp (x.value s))
    refine ⟨t, hexec, ⟨(sub8 s.a (x.value s) false).res, ?_⟩, ?_, htrace, hframe⟩
    · rw [hflags]
      exact subOutcome_sub8 s.a (x.value s) false
    · rw [hflags]
      exact subCarry_sub8 s.a (x.value s) false true

/-- Settles O42: three bitwise results, each with the half carry it writes. -/
theorem logicOnA : Obligations.LogicOnA := by
  unfold Obligations.LogicOnA
  intro x s
  change ∀ p : AluOp × Byte × Bool, p ∈ _ → PutsLogic x p.2.1 p.2.2 s (exec (p.1.instr x) s)
  simp only [List.forall_mem_cons]
  exact ⟨exec_putsLogic rfl rfl, exec_putsLogic rfl rfl, exec_putsLogic rfl rfl, by simp⟩

/-! ## Reading and writing one place (R233 to R237) -/

/-- A place's operand taken to an operation and its result written back: to the register, or to the address read. -/
def Place.update (op : Byte → State → Byte × State) : Place → State → State
  | .reg r, s => s.updateReg r op
  | .atHL, s => s.updateAt s.hl op
  | .atIX d, s => s.updateAt (s.addrIX d) op
  | .atIY d, s => s.updateAt (s.addrIY d) op

section
variable {op : Byte → State → Byte × State} {ps : List Piece} (hop : ∀ v t, changesOnly ps t (op v t).2)
  (hps : ps ⊆ [.f, .draws]) (s : State)
include hop hps

/-- The state that an operation on a byte read leaves to the write: memory, its map and the trace are those after the read. -/
theorem frame_op_read8 (a : Word) :
    (op (s.read8 a).1 (s.read8 a).2).2.byteAt a = s.byteAt a ∧
      (op (s.read8 a).1 (s.read8 a).2).2.memMap = s.memMap ∧
      (op (s.read8 a).1 (s.read8 a).2).2.trace = s.trace ++ readEvents a s := by
  have h := (hop (s.read8 a).1 (s.read8 a).2).mono hps
  exact ⟨(h (.byte a) (by simp)).trans (s.read8_byteAt a a), (h .memMap (by simp)).trans (s.read8_memMap a),
    (h .trace (by simp)).trans (s.trace_read8 a)⟩

theorem State.landed_updateAt (a : Word) :
    landed a (op (s.read8 a).1 (s.read8 a).2).1 s (s.updateAt a op) := by
  obtain ⟨hbyte, hmap, -⟩ := frame_op_read8 hop hps s a
  have h := (op (s.read8 a).1 (s.read8 a).2).2.landed_write8 a (op (s.read8 a).1 (s.read8 a).2).1
  rwa [landed, State.kindAt_of_memMap a hmap, hbyte] at h

theorem State.trace_updateAt (a : Word) :
    (s.updateAt a op).trace =
      s.trace ++ (readEvents a s ++ writeEvents a (op (s.read8 a).1 (s.read8 a).2).1 s) := by
  obtain ⟨-, hmap, htrace⟩ := frame_op_read8 hop hps s a
  rw [State.updateAt, State.trace_write8, htrace, writeEvents, State.kindAt_of_memMap a hmap, List.append_assoc]
  rfl

end

namespace Place
variable (m : Place)

theorem flags_update (op : Byte → State → Byte × State) (s : State) :
    (m.update op s).flags = (op (m.source.value s) (m.source.after s)).2.flags := by
  cases m with
  | reg r => exact State.setReg8_flags _ r _
  | atHL => exact State.write8_flags _ s.hl _
  | atIX d => exact State.write8_flags _ (s.addrIX d) _
  | atIY d => exact State.write8_flags _ (s.addrIY d) _

variable {op : Byte → State → Byte × State} {ps : List Piece} (hop : ∀ v t, changesOnly ps t (op v t).2)
  (hps : ps ⊆ [.f, .draws]) (s : State)

include hop in
theorem frame_update : changesOnly (ps ++ m.target s) s (m.update op s) := by
  cases m with
  | reg r => exact (s.frame_updateReg hop r).mono (by simp [target])
  | atHL => exact (s.frame_updateAt hop s.hl).mono (by simp [target])
  | atIX d => exact (s.frame_updateAt hop (s.addrIX d)).mono (by simp [target])
  | atIY d => exact (s.frame_updateAt hop (s.addrIY d)).mono (by simp [target])

include hop hps

theorem holds_update : m.holds (op (m.source.value s) (m.source.after s)).1 s (m.update op s) := by
  cases m with
  | reg r => simp [holds, update, State.updateReg, source, Source.value, Source.after]
  | atHL => exact State.landed_updateAt hop hps s s.hl
  | atIX d => exact State.landed_updateAt hop hps s (s.addrIX d)
  | atIY d => exact State.landed_updateAt hop hps s (s.addrIY d)

theorem trace_update :
    (m.update op s).trace = s.trace ++ m.events (op (m.source.value s) (m.source.after s)).1 s := by
  cases m with
  | reg r =>
    have h : (op (s.reg8 r) s).2.trace = s.trace := (hop (s.reg8 r) s).mono hps .trace (by simp)
    simpa [update, State.updateReg, events, source, Source.addr?] using h
  | atHL => exact State.trace_updateAt hop hps s s.hl
  | atIX d => exact State.trace_updateAt hop hps s (s.addrIX d)
  | atIY d => exact State.trace_updateAt hop hps s (s.addrIY d)

end Place

namespace Place
variable (m : Place) (s : State)

theorem holds_advance {v : Byte} {t : State} (h : m.holds v s t) (k : Word) : m.holds v s (t.advance k) := by
  cases m with
  | reg r => exact (t.advance_reg8 r k).trans h
  | _ => exact h

/-- An operation that writes the flags, on a place, and then the move of PC. -/
theorem update_advance {op : Byte → State → Byte × State} (hop : ∀ v t, changesOnly [.f, .draws] t (op v t).2)
    (k : Word) :
    m.holds (op (m.source.value s) (m.source.after s)).1 s ((m.update op s).advance k) ∧
      ((m.update op s).advance k).trace =
        s.trace ++ m.events (op (m.source.value s) (m.source.after s)).1 s ∧
      changesOnly (.f :: .pc :: .draws :: m.target s) s ((m.update op s).advance k) :=
  ⟨m.holds_advance s (m.holds_update hop (List.Subset.refl _) s) k, m.trace_update hop (List.Subset.refl _) s,
    ((m.frame_update hop s).advance k).mono (by simp)⟩

/-! ## INC and DEC (R233 to R237) -/

theorem exec_incInstr : exec (incInstr m) s = .next ((m.update incByte s).advance m.source.instrLength) := by
  cases m <;> rfl

theorem exec_decInstr : exec (decInstr m) s = .next ((m.update decByte s).advance m.source.instrLength) := by
  cases m <;> rfl

/-- All six flags after INC: those of the sum with 1, C as before (R233). -/
theorem flags_update_incByte :
    (m.update incByte s).flags = incDecFlags s.flags (add8 (m.source.value s) 1 false) false := by
  simp [flags_update, incByte]

/-- All six flags after DEC: those of the difference with 1, C as before (R237). -/
theorem flags_update_decByte :
    (m.update decByte s).flags = incDecFlags s.flags (sub8 (m.source.value s) 1 false) true := by
  simp [flags_update, decByte]

end Place

/-- Settles O43: the sum or difference with 1, written back to the operand's place. -/
theorem incDecByte : Obligations.IncDecByte := by
  unfold Obligations.IncDecByte
  intro m s
  constructor
  · obtain ⟨hholds, htrace, hframe⟩ := m.update_advance s (fun v t => frame_incByte t v) m.source.instrLength
    refine ⟨_, _, m.exec_incInstr s, hholds, ?_, ?_, htrace, hframe⟩
    · rw [State.advance_flags, Place.flags_update_incByte]
      exact addOutcome_add8 (m.source.value s) 1 false
    · rw [State.advance_flags, Place.flags_update_incByte, incDecFlags]
  · obtain ⟨hholds, htrace, hframe⟩ := m.update_advance s (fun v t => frame_decByte t v) m.source.instrLength
    refine ⟨_, _, m.exec_decInstr s, hholds, ?_, ?_, htrace, hframe⟩
    · rw [State.advance_flags, Place.flags_update_decByte]
      exact subOutcome_sub8 (m.source.value s) 1 false
    · rw [State.advance_flags, Place.flags_update_decByte, incDecFlags]

end Sys2Proof.Machine
end

section
/-!
PROOF of O44 to O47: the general arithmetic and CPU control instructions (R260 to R271).

DAA, CPL and NEG write A and the flags; CCF and SCF the flags; the rest control state. What DAA makes of a byte is
said in whole numbers with two corrections, one for each digit. After an addition or a subtraction of packed-BCD bytes,
the low correction is asked for exactly when the low digits carry or borrow in decimal, the high one exactly when the
decimal values do (`daaLow_of_addOutcome`, `daaHigh_of_addOutcome` and their twins for a difference). With the two
decimal carries as numbers, the digits of the corrected byte can be written down.
-/

namespace Sys2Proof.Machine

/-! ## Writing A and the flags (R260 to R262) -/

/-- The result of an instruction of `k` bytes that puts `v` into A and `x` into the flags, and writes nothing else. -/
def PutsAFlags (v : Byte) (x : FlagBits) (k : Word) (s : State) (r : Result) : Prop :=
  ∃ t, r = .next t ∧ t.pc = s.pc + k ∧ t.a = v ∧ t.flags = x ∧ changesOnly [.reg .a, .f, .pc, .draws] s t

theorem putsAFlags_setA_writeFlags (v : Byte) (x : FlagBits) (k : Word) (s : State) :
    PutsAFlags v x k s (.next (((s.setA v).writeFlags x).advance k)) := by
  have hframe : changesOnly [.reg .a, .f, .draws] s ((s.setA v).writeFlags x) :=
    ((s.frame_setA v).mono (by simp)).andThen (State.frame_writeFlags _ x) (by simp)
  exact ⟨_, rfl, rfl, rfl, State.flags_writeFlags _ x, (hframe.advance k).mono (by simp)⟩

theorem exec_daa_putsAFlags (s : State) :
    PutsAFlags (daaResult s.a s.flags) (daaFlags s.a s.flags) 1 s (exec .daa s) :=
  putsAFlags_setA_writeFlags _ _ 1 s

theorem exec_cpl_putsAFlags (s : State) :
    PutsAFlags (~~~s.a) { s.flags with n := true, h := true } 1 s (exec .cpl s) := by
  have hnot : s.a ^^^ 0xFF = ~~~s.a := BitVec.xor_allOnes
  rw [← hnot]
  exact putsAFlags_setA_writeFlags _ _ 1 s

theorem exec_neg_putsAFlags (s : State) :
    PutsAFlags (sub8 0 s.a false).res (arithFlags (sub8 0 s.a false) true) 2 s (exec .neg s) :=
  putsAFlags_setA_writeFlags _ _ 2 s

/-! ## Decimal adjustment in whole numbers (R260, C22 of 90_conflicts.md) -/

/-- The correction of the low digit. -/
def daaLow (a : Byte) (x : FlagBits) : Int := if x.h = true ∨ 9 < a.toNat % 16 then 0x06 else 0

/-- The correction of the high digit. -/
def daaHigh (a : Byte) (x : FlagBits) : Int := if x.c = true ∨ 0x99 < a.toNat then 0x60 else 0

section
variable (a : Byte) (x : FlagBits)

/-- The two corrections share no bit, so that the byte made of them is their sum. -/
theorem toNat_daaCorrection : ((daaCorrection a x).toNat : Int) = daaLow a x + daaHigh a x := by
  simp only [daaCorrection, daaLow, daaHigh, Bool.or_eq_true, decide_eq_true_eq]
  split <;> split <;> rfl

theorem toNat_daaResult :
    ((daaResult a x).toNat : Int) =
      (if x.n = true then (a.toNat : Int) - daaLow a x - daaHigh a x
        else (a.toNat : Int) + daaLow a x + daaHigh a x) % 256 := by
  have hcorr := toNat_daaCorrection a x
  have hlt := (daaCorrection a x).isLt
  unfold daaResult
  split
  · rw [BitVec.toNat_sub]
    omega
  · rw [BitVec.toNat_add]
    omega

/-- The new carry is that the high digit was corrected. -/
theorem daaFlags_c_iff : (daaFlags a x).c = true ↔ x.c = true ∨ 0x99 < a.toNat := by simp [daaFlags]

theorem daaFlags_h_iff_of_added (hn : x.n = false) : (daaFlags a x).h = true ↔ 9 < a.toNat % 16 := by
  simp [daaFlags, daaHalf, hn]

theorem daaFlags_h_iff_of_subtracted (hn : x.n = true) :
    (daaFlags a x).h = true ↔ x.h = true ∧ a.toNat % 16 < 6 := by
  simp [daaFlags, daaHalf, hn]

end

/-- Settles O44: A is the corrected byte in whole numbers, and each flag is read off `daaFlags`. -/
theorem decimalAdjust : Obligations.DecimalAdjust := by
  unfold Obligations.DecimalAdjust
  intro s
  obtain ⟨t, hexec, -, ha, hf, hframe⟩ := exec_daa_putsAFlags s
  refine ⟨t, hexec, ?_⟩
  rw [ha, hf]
  refine ⟨?_, daaFlags_c_iff _ _, daaFlags_h_iff_of_added _ _, daaFlags_h_iff_of_subtracted _ _, rfl,
    signZero_of_msb_of_beq rfl rfl, parity8_eq_evenParity _, hframe⟩
  rintro _ _ rfl rfl
  exact toNat_daaResult s.a s.flags

/-! ## The digits of a packed-BCD byte -/

theorem bcd_of_digits {r : Byte} {hi lo : Int} (hr : (r.toNat : Int) = (16 * hi + lo) % 256)
    (hhi : 0 ≤ hi ∧ hi < 10) (hlo : 0 ≤ lo ∧ lo < 10) : isBcd r ∧ (bcdValue r : Int) = 10 * hi + lo := by
  rw [isBcd, bcdValue]
  omega

/-! ## Decimal adjustment after an addition (R221, R226, R260) -/

section
variable {a v res : Byte} {cin : Bool} {x : FlagBits} (ha : isBcd a) (hv : isBcd v)
include ha hv

/-- After an addition of decimal digits the low correction is asked for exactly when the low digits carry: `c` is their
decimal carry. -/
theorem daaLow_of_addOutcome (hsum : addOutcome a v cin res x) :
    ∃ c : Nat, daaLow res x = 6 * c ∧
      10 * c ≤ a.toNat % 16 + v.toNat % 16 + cin.toNat ∧ a.toNat % 16 + v.toNat % 16 + cin.toNat < 10 * c + 10 := by
  obtain ⟨hres, -, hhalf, -, -⟩ := hsum
  obtain ⟨-, ha0⟩ := ha
  obtain ⟨-, hv0⟩ := hv
  have hcin := cin.toNat_le
  simp only [daaLow, hhalf]
  split
  · exact ⟨1, rfl, by omega⟩
  · exact ⟨0, rfl, by omega⟩

/-- After an addition of decimal digits the high correction is asked for exactly when the decimal sum needs a third
digit, which is `c` and is what DAA leaves in C. -/
theorem daaHigh_of_addOutcome (hsum : addOutcome a v cin res x) (hcarry : addCarry a v cin x) :
    ∃ c : Nat, daaHigh res x = 96 * c ∧ (if (daaFlags res x).c = true then 100 else 0) = 100 * c ∧
      100 * c ≤ bcdValue a + bcdValue v + cin.toNat ∧ bcdValue a + bcdValue v + cin.toNat < 100 * c + 100 := by
  obtain ⟨hres, -, -, -, -⟩ := hsum
  obtain ⟨ha1, ha0⟩ := ha
  obtain ⟨hv1, hv0⟩ := hv
  have hcin := cin.toNat_le
  unfold addCarry at hcarry
  simp only [daaHigh, daaFlags_c_iff, hcarry, bcdValue]
  split
  · exact ⟨1, rfl, rfl, by omega⟩
  · exact ⟨0, rfl, rfl, by omega⟩

/-- The corrections turn the binary carries into the decimal ones: 16 - 6 = 10 and 256 - 96 = 160. -/
theorem daa_of_addOutcome (hsum : addOutcome a v cin res x) (hcarry : addCarry a v cin x) :
    isBcd (daaResult res x) ∧
      bcdValue (daaResult res x) + (if (daaFlags res x).c = true then 100 else 0) =
        bcdValue a + bcdValue v + cin.toNat := by
  obtain ⟨c0, hlow, hdigit⟩ := daaLow_of_addOutcome ha hv hsum
  obtain ⟨c1, hhigh, hflag, htotal⟩ := daaHigh_of_addOutcome ha hv hsum hcarry
  obtain ⟨hres, -, -, -, hn⟩ := hsum
  have hadj := toNat_daaResult res x
  simp only [hn, hlow, hhigh, hres, Bool.false_eq_true, if_false] at hadj
  rw [hflag]
  rw [bcdValue, bcdValue] at htotal
  obtain ⟨hbcd, hvalue⟩ := bcd_of_digits (r := daaResult res x)
    (hi := a.toNat / 16 + v.toNat / 16 + c0 - 10 * c1)
    (lo := a.toNat % 16 + v.toNat % 16 + cin.toNat - 10 * c0) (by omega) (by omega) (by omega)
  refine ⟨hbcd, ?_⟩
  unfold bcdValue at hvalue ⊢
  omega

/-! ## Decimal adjustment after a subtraction (R227, R228, R260) -/

/-- After a subtraction of decimal digits the low correction is asked for exactly when the low digits borrow: `c` is
their decimal borrow. -/
theorem daaLow_of_subOutcome (hdiff : subOutcome a v cin res x) :
    ∃ c : Nat, daaLow res x = 6 * c ∧
      v.toNat % 16 + cin.toNat ≤ a.toNat % 16 + 10 * c ∧ a.toNat % 16 + 10 * c < v.toNat % 16 + cin.toNat + 10 := by
  obtain ⟨hres, -, hhalf, -, -⟩ := hdiff
  obtain ⟨-, ha0⟩ := ha
  obtain ⟨-, hv0⟩ := hv
  have hcin := cin.toNat_le
  simp only [daaLow, hhalf]
  split
  · exact ⟨1, rfl, by omega⟩
  · exact ⟨0, rfl, by omega⟩

/-- After a subtraction of decimal digits the high correction is asked for exactly when the decimal values borrow,
which is `c` and is what DAA leaves in C. -/
theorem daaHigh_of_subOutcome (hdiff : subOutcome a v cin res x) (hborrow : subCarry a v cin x) :
    ∃ c : Nat, daaHigh res x = 96 * c ∧ (if (daaFlags res x).c = true then 100 else 0) = 100 * c ∧
      bcdValue v + cin.toNat ≤ bcdValue a + 100 * c ∧ bcdValue a + 100 * c < bcdValue v + cin.toNat + 100 := by
  obtain ⟨hres, -, -, -, -⟩ := hdiff
  obtain ⟨ha1, ha0⟩ := ha
  obtain ⟨hv1, hv0⟩ := hv
  have hcin := cin.toNat_le
  unfold subCarry at hborrow
  simp only [daaHigh, daaFlags_c_iff, hborrow, bcdValue]
  split
  · exact ⟨1, rfl, rfl, by omega⟩
  · exact ⟨0, rfl, rfl, by omega⟩

/-- The corrections turn the binary borrows into the decimal ones: 16 - 6 = 10 and 256 - 96 = 160. -/
theorem daa_of_subOutcome (hdiff : subOutcome a v cin res x) (hborrow : subCarry a v cin x) :
    isBcd (daaResult res x) ∧
      bcdValue (daaResult res x) + bcdValue v + cin.toNat =
        bcdValue a + (if (daaFlags res x).c = true then 100 else 0) := by
  obtain ⟨c0, hlow, hdigit⟩ := daaLow_of_subOutcome ha hv hdiff
  obtain ⟨c1, hhigh, hflag, htotal⟩ := daaHigh_of_subOutcome ha hv hdiff hborrow
  obtain ⟨hres, -, -, -, hn⟩ := hdiff
  have hadj := toNat_daaResult res x
  simp only [hn, hlow, hhigh, hres, if_true] at hadj
  rw [hflag]
  rw [bcdValue, bcdValue] at htotal
  obtain ⟨hbcd, hvalue⟩ := bcd_of_digits (r := daaResult res x)
    (hi := a.toNat / 16 - v.toNat / 16 - c0 + 10 * c1)
    (lo := a.toNat % 16 - v.toNat % 16 - cin.toNat + 10 * c0) (by omega) (by omega) (by omega)
  refine ⟨hbcd, ?_⟩
  unfold bcdValue at hvalue ⊢
  omega

end

/-! ## The two instructions together -/

/-- The result of an addition that DAA turns into the decimal sum, `carry` being added too (R260). -/
def AddsDecimal (v : Byte) (carry : Nat) (s : State) (r : Result) : Prop :=
  ∃ t u, r = .next t ∧ exec .daa t = .next u ∧ isBcd u.a ∧
    bcdValue u.a + (if u.flags.c = true then 100 else 0) = bcdValue s.a + bcdValue v + carry

/-- The result of a subtraction that DAA turns into the decimal difference, `borrow` being subtracted too (R260). -/
def SubtractsDecimal (v : Byte) (borrow : Nat) (s : State) (r : Result) : Prop :=
  ∃ t u, r = .next t ∧ exec .daa t = .next u ∧ isBcd u.a ∧
    bcdValue u.a + bcdValue v + borrow = bcdValue s.a + (if u.flags.c = true then 100 else 0)

section
variable {v : Byte} {s : State} {cin : Bool} {r : Result} (ha : isBcd s.a) (hv : isBcd v)
include ha hv

theorem AddsToA.addsDecimal (h : AddsToA (.imm v) cin s r) : AddsDecimal v cin.toNat s r := by
  obtain ⟨t, hr, hsum, hcarry, -, -⟩ := h
  obtain ⟨u, hdaa, -, hua, huf, -⟩ := exec_daa_putsAFlags t
  refine ⟨t, u, hr, hdaa, ?_⟩
  rw [hua, huf]
  exact daa_of_addOutcome ha hv hsum hcarry

theorem SubtractsFromA.subtractsDecimal (h : SubtractsFromA (.imm v) cin s r) : SubtractsDecimal v cin.toNat s r := by
  obtain ⟨t, hr, hdiff, hborrow, -, -⟩ := h
  obtain ⟨u, hdaa, -, hua, huf, -⟩ := exec_daa_putsAFlags t
  refine ⟨t, u, hr, hdaa, ?_⟩
  rw [hua, huf]
  exact daa_of_subOutcome ha hv hdiff hborrow

end

/-- Settles O45: the sums and differences of O40 and O41, each adjusted. -/
theorem decimalArithmetic : Obligations.DecimalArithmetic := by
  unfold Obligations.DecimalArithmetic
  intro v s ha hv
  constructor
  · change ∀ p : AluOp × Nat, p ∈ _ → AddsDecimal v p.2 s (exec (p.1.instr (.imm v)) s)
    simp only [List.forall_mem_cons]
    exact ⟨(exec_addsToA (cin := false) rfl rfl).addsDecimal ha hv,
      (exec_addsToA (cin := s.flags.c) rfl rfl).addsDecimal ha hv, by simp⟩
  · change ∀ p : AluOp × Nat, p ∈ _ → SubtractsDecimal v p.2 s (exec (p.1.instr (.imm v)) s)
    simp only [List.forall_mem_cons]
    exact ⟨(exec_subtractsFromA (cin := false) rfl rfl).subtractsDecimal ha hv,
      (exec_subtractsFromA (cin := s.flags.c) rfl rfl).subtractsDecimal ha hv, by simp⟩

/-! ## Complement and carry (R261 to R264) -/

/-- The result of CCF and SCF: C and H as given, N = 0, the other flags and A unchanged (R263, R264). -/
def WritesCarry (c h : Bool) (s : State) (r : Result) : Prop :=
  ∃ t, r = .next t ∧ t.pc = s.pc + 1 ∧ t.flags.c = c ∧ t.flags.h = h ∧ t.flags.n = false ∧
    t.flags.s = s.flags.s ∧ t.flags.z = s.flags.z ∧ t.flags.pv = s.flags.pv ∧
    changesOnly [.f, .pc, .draws] s t

theorem writesCarry_writeCarry (c h : Bool) (s : State) :
    WritesCarry c h s (.next ((s.writeCarry c h).advance 1)) := by
  have hframe := ((s.frame_writeCarry c h).advance 1).mono (qs := [.f, .pc, .draws]) (by simp)
  have hflags : (s.writeCarry c h).flags = { s.flags with c := c, h := h, n := false } := s.flags_writeFlags _
  refine ⟨_, rfl, rfl, ?_⟩
  rw [State.advance_flags, hflags]
  exact ⟨rfl, rfl, rfl, rfl, rfl, rfl, hframe⟩

/-- Settles O46: CPL and NEG write A and the flags, CCF and SCF share the write of C. -/
theorem complementAndCarry : Obligations.ComplementAndCarry := by
  unfold Obligations.ComplementAndCarry
  refine ⟨rfl, rfl, rfl, rfl, fun s => ⟨?_, ?_, ?_⟩⟩
  · obtain ⟨t, hexec, hpc, ha, hf, hframe⟩ := exec_cpl_putsAFlags s
    refine ⟨t, hexec, hpc, ha, ?_⟩
    rw [hf]
    exact ⟨rfl, rfl, rfl, rfl, rfl, rfl, hframe⟩
  · obtain ⟨t, hexec, hpc, ha, hf, hframe⟩ := exec_neg_putsAFlags s
    refine ⟨t, hexec, hpc, ?_⟩
    rw [ha, hf]
    exact ⟨subOutcome_sub8 0 s.a false, subCarry_sub8 0 s.a false true, hframe⟩
  · change ∀ p : Instr × Bool × Bool, p ∈ _ → WritesCarry p.2.1 p.2.2 s (exec p.1 s)
    simp only [List.forall_mem_cons]
    exact ⟨writesCarry_writeCarry (!s.flags.c) s.flags.c s, writesCarry_writeCarry true false s, by simp⟩

/-! ## CPU control (R265 to R271) -/

/-- The pieces that HALT, DI, EI and IM write beside PC. -/
def controlPieces : List Piece := [.iff1, .iff2, .im, .halted, .eiShadow]

/-- A write of control state changes only the pieces among `controlPieces` that it does not give their old value. -/
theorem State.frame_writeControl {ps : List Piece} (s : State) (iff1 iff2 halted shadow : Bool) (im : IntMode)
    (h : ∀ p ∈ controlPieces, p ∉ ps →
      p.same s { s with iff1 := iff1, iff2 := iff2, im := im, halted := halted, eiShadow := shadow }) :
    changesOnly ps s
      { s with iff1 := iff1, iff2 := iff2, im := im, halted := halted, eiShadow := shadow } := by
  intro p hp
  cases p with
  | iff1 | iff2 | im | halted | eiShadow => exact h _ (by simp [controlPieces]) hp
  | reg q => cases q <;> rfl
  | _ => rfl

/-- The result of IM n (R269 to R271). -/
def SetsMode (mode : IntMode) (s : State) (r : Result) : Prop :=
  ∃ t, r = .next t ∧ t.pc = s.pc + 2 ∧ t.im = mode ∧ changesOnly [.im, .pc] s t

theorem setsMode_writeIm (mode : IntMode) (s : State) :
    SetsMode mode s (.next (State.advance 2 { s with im := mode })) := by
  have hframe : changesOnly [.im] s { s with im := mode } :=
    s.frame_writeControl s.iff1 s.iff2 s.halted s.eiShadow mode (by simp [controlPieces, Piece.same])
  exact ⟨_, rfl, rfl, rfl, (hframe.advance 2).mono (by simp)⟩

/-- Settles O47: each instruction writes its own control state, and its frame is followed by that of `advance`. -/
theorem cpuControl : Obligations.CpuControl := by
  unfold Obligations.CpuControl
  refine ⟨rfl, fun s => ?_⟩
  have hhalt : changesOnly [.halted] s { s with halted := true } :=
    s.frame_writeControl s.iff1 s.iff2 true s.eiShadow s.im (by simp [controlPieces, Piece.same])
  have hdi : changesOnly [.iff1, .iff2] s { s with iff1 := false, iff2 := false } :=
    s.frame_writeControl false false s.halted s.eiShadow s.im (by simp [controlPieces, Piece.same])
  have hei : changesOnly [.iff1, .iff2, .eiShadow] s { s with iff1 := true, iff2 := true, eiShadow := true } :=
    s.frame_writeControl true true s.halted true s.im (by simp [controlPieces, Piece.same])
  refine ⟨⟨_, rfl, rfl, s.frame_advance 1⟩, ⟨_, rfl, rfl, rfl, (hhalt.advance 1).mono (by simp)⟩,
    ⟨_, rfl, rfl, rfl, rfl, (hdi.advance 1).mono (by simp)⟩,
    ⟨_, rfl, rfl, rfl, rfl, rfl, (hei.advance 1).mono (by simp)⟩, ?_⟩
  change ∀ p : Instr × IntMode, p ∈ _ → SetsMode p.2 s (exec p.1 s)
  simp only [List.forall_mem_cons]
  exact ⟨setsMode_writeIm .im0 s, setsMode_writeIm .im1 s, setsMode_writeIm .im2 s, by simp⟩

end Sys2Proof.Machine
end

section
/-!
PROOF of O48 and O49: the 16-bit additions and subtractions (R280 to R284, R291).

Each instruction puts the result of `add16` or `sub16` into a register, writes the flags, and moves PC. The write of
the flags draws free values (H, bits 5 and 3 of F), so that its frame, `f` and `draws`, is all that is used of it to
see that the register still holds the result (`WordReg.value_of_frame`). Overflow is that of any width
(`ov_addWith_iff`, `ov_subWith_iff`).
-/

namespace Sys2Proof.Machine

/-! ## A 16-bit register under a frame -/

namespace WordReg
variable {w : WordReg} {s t : State}

/-- A register that is the same in all its pieces is the same (R21). -/
theorem value_of_same (h : ∀ p ∈ w.pieces, p.same s t) : w.value t = w.value s := by
  cases w with
  | dd p => cases p <;> simp_all [pieces, value, Piece.same, State.pairDD, State.reg8, State.bc, State.de, State.hl]
  | qq q =>
    cases q <;>
      simp_all [pieces, value, Piece.same, State.pairQQ, State.reg8, State.bc, State.de, State.hl, State.af]
  | ix => exact h .ix (by simp [pieces])
  | iy => exact h .iy (by simp [pieces])

/-- What changes no piece of a register keeps it. -/
theorem value_of_frame {ps : List Piece} (h : changesOnly ps s t) (hw : ps.Disjoint w.pieces) :
    w.value t = w.value s :=
  value_of_same fun p hp => h p fun hps => hw hps hp

/-- A write of a register other than AF keeps the flags. -/
theorem flags_put (hw : Piece.f ∉ w.pieces) (v : Word) (s : State) : (w.put v s).flags = s.flags :=
  congrArg flagBits (w.frame_put v s .f hw)

end WordReg

/-! ## The results of `add16` and `sub16` (R7) -/

section
variable (a b : Word) (cin : Bool)

theorem toNat_res_add16 : (add16 a b cin).res.toNat = (a.toNat + b.toNat + cin.toNat) % 65536 := by
  simp [add16, addWith]

theorem toNat_res_sub16 : ((sub16 a b cin).res.toNat : Int) = ((a.toNat : Int) - b.toNat - cin.toNat) % 65536 := by
  simp only [sub16, subWith, BitVec.toNat_ofInt]
  omega

theorem cy_add16_iff : (add16 a b cin).cy = true ↔ 65536 ≤ a.toNat + b.toNat + cin.toNat := by
  simp [add16, addWith]

theorem cy_sub16_iff : (sub16 a b cin).cy = true ↔ a.toNat < b.toNat + cin.toNat := by
  simp [sub16, subWith]

theorem ov_add16_iff :
    (add16 a b cin).ov = true ↔
      a.toInt + b.toInt + cin.toNat < -32768 ∨ 32767 < a.toInt + b.toInt + cin.toNat :=
  (ov_addWith_iff 12 (w := 15) a b cin).trans (by omega)

theorem ov_sub16_iff :
    (sub16 a b cin).ov = true ↔
      a.toInt - b.toInt - cin.toNat < -32768 ∨ 32767 < a.toInt - b.toInt - cin.toNat :=
  (ov_subWith_iff 12 (w := 15) a b cin).trans (by omega)

end

/-! ## The flags they write (R280 to R282) -/

section
variable (s : State) (x : Arith 16)

/-- All six flags after a 16-bit ADD; H is a free value (R291). -/
theorem State.flags_add16Flags :
    (s.add16Flags x).flags = { s.flags with h := s.anyBit.1, n := false, c := x.cy } :=
  State.flags_writeFlags _ _

/-- All six flags after ADC HL and SBC HL; H is a free value (R291). -/
theorem State.flags_carry16Flags (n : Bool) :
    (s.carry16Flags x n).flags =
      { s := x.res.msb, z := x.res == 0, h := s.anyBit.1, pv := x.ov, n := n, c := x.cy } :=
  State.flags_writeFlags _ _

end

/-! ## ADD (R280, R283, R284) -/

/-- The result of a 16-bit ADD of `v` to `w`. -/
def AddsWord (w : WordReg) (v : Word) (s : State) (r : Result) : Prop :=
  ∃ t, r = .next t ∧
    (w.value t).toNat = ((w.value s).toNat + v.toNat) % 65536 ∧
    (t.flags.c = true ↔ 65536 ≤ (w.value s).toNat + v.toNat) ∧ t.flags.n = false ∧
    t.flags.s = s.flags.s ∧ t.flags.z = s.flags.z ∧ t.flags.pv = s.flags.pv ∧
    changesOnly (.f :: .pc :: .draws :: w.pieces) s t

theorem addsWord_put_add16Flags {w : WordReg} (hw : [Piece.f, .draws].Disjoint w.pieces) (v : Word) (s : State)
    {x : Arith 16} (hx : x = add16 (w.value s) v false) (k : Word) :
    AddsWord w v s (.next (((w.put x.res s).add16Flags x).advance k)) := by
  have hvalue : w.value ((w.put x.res s).add16Flags x) = x.res :=
    (WordReg.value_of_frame (State.frame_add16Flags _ x) hw).trans (w.value_put _ s)
  have hflags := (w.put x.res s).flags_add16Flags x
  rw [WordReg.flags_put (hw (by simp))] at hflags
  have hframe : changesOnly (.f :: .draws :: w.pieces) s ((w.put x.res s).add16Flags x) :=
    ((w.frame_put x.res s).mono fun p hp => by simp [hp]).andThen (State.frame_add16Flags _ x) (by simp)
  refine ⟨_, rfl, ?_⟩
  rw [WordReg.value_advance, State.advance_flags, hvalue, hflags]
  subst hx
  exact ⟨toNat_res_add16 _ v false, cy_add16_iff _ v false, rfl, rfl, rfl, rfl,
    (hframe.advance k).mono fun p hp => by simp only [List.mem_cons] at hp ⊢; tauto⟩

/-- Settles O48: each form adds to its own register, none of which has a piece in F. -/
theorem addWord : Obligations.AddWord := by
  unfold Obligations.AddWord
  intro p pp rr s
  change ∀ x : Instr × WordReg × Word, x ∈ _ → AddsWord x.2.1 x.2.2 s (exec x.1 s)
  simp only [List.forall_mem_cons]
  exact ⟨addsWord_put_add16Flags (w := .dd .hl) (by simp [WordReg.pieces]) (s.pairDD p) s rfl 1,
    addsWord_put_add16Flags (w := .ix) (by simp [WordReg.pieces]) (s.pairPP pp) s rfl 2,
    addsWord_put_add16Flags (w := .iy) (by simp [WordReg.pieces]) (s.pairRR rr) s rfl 2, by simp⟩

/-! ## ADC and SBC (R281, R282) -/

/-- The result of ADC HL and SBC HL, where the arithmetic gives `x`; H is any value (R291). -/
def PutsHLCarryFlags (x : Arith 16) (n : Bool) (s : State) (r : Result) : Prop :=
  ∃ t, r = .next t ∧ t.hl = x.res ∧ t.flags.c = x.cy ∧ t.flags.pv = x.ov ∧
    (t.flags.z = true ↔ t.hl.toNat = 0) ∧ (t.flags.s = true ↔ t.hl.toInt < 0) ∧ t.flags.n = n ∧
    changesOnly [.reg .h, .reg .l, .f, .pc, .draws] s t

theorem putsHLCarryFlags_setHL_carry16Flags (x : Arith 16) (n : Bool) (s : State) (k : Word) :
    PutsHLCarryFlags x n s (.next (((s.setHL x.res).carry16Flags x n).advance k)) := by
  have hhl : ((s.setHL x.res).carry16Flags x n).hl = x.res := s.hl_setHL x.res
  have hframe : changesOnly [.reg .h, .reg .l, .f, .draws] s ((s.setHL x.res).carry16Flags x n) :=
    ((s.frame_setHL x.res).mono (by simp)).andThen (State.frame_carry16Flags _ x n) (by simp)
  refine ⟨_, rfl, ?_⟩
  rw [State.advance_hl, State.advance_flags, hhl, State.flags_carry16Flags]
  exact ⟨rfl, rfl, rfl, by simp [← BitVec.toNat_inj], by simp [BitVec.msb_eq_toInt], rfl,
    (hframe.advance k).mono (by simp)⟩

/-- Settles O49: the carry and the overflow of `add16` and `sub16`, in whole numbers. -/
theorem addSubtractWordWithCarry : Obligations.AddSubtractWordWithCarry := by
  unfold Obligations.AddSubtractWordWithCarry
  intro p s
  constructor
  · obtain ⟨t, hexec, hhl, hc, hpv, hz, hs, hn, hframe⟩ :=
      putsHLCarryFlags_setHL_carry16Flags (add16 s.hl (s.pairDD p) s.flags.c) false s 2
    refine ⟨t, hexec, ?_, ?_, ?_, hz, hs, hn, hframe⟩
    · rw [hhl, toNat_res_add16]
    · rw [hc, cy_add16_iff]
    · rw [hpv, ov_add16_iff]
  · obtain ⟨t, hexec, hhl, hc, hpv, hz, hs, hn, hframe⟩ :=
      putsHLCarryFlags_setHL_carry16Flags (sub16 s.hl (s.pairDD p) s.flags.c) true s 2
    refine ⟨t, hexec, ?_, ?_, ?_, hz, hs, hn, hframe⟩
    · rw [hhl, toNat_res_sub16]
    · rw [hc, cy_sub16_iff]
    · rw [hpv, ov_sub16_iff]

end Sys2Proof.Machine
end

section
/-!
PROOF of O50 to O52: the rotates and shifts (R300 to R316).

Every rotate and shift is a shift by one place with some bit entering (`shiftLeftIn`, `shiftRightIn`), so that the bits
of the two shifts are all there is to say of the bits (`RotOp.gives_move`). The seven operations differ in that movement
alone (`RotOp.move`): the forms on A put it into A, and those of the CB page take it to a place (`Place.update`). RLD
and RRD are one read and one write at HL and then a write of A; they differ in the two bytes written.
-/

namespace Sys2Proof.Machine

/-! ## The bits of a shift by one place (R316(b)) -/

theorem shiftLeftIn_eq_shiftConcat (v : Byte) (b : Bool) : shiftLeftIn v b = v.shiftConcat b := by
  have hb := b.toNat_le
  apply BitVec.eq_of_toNat_eq
  simp only [shiftLeftIn, BitVec.toNat_ofNat, BitVec.toNat_shiftConcat, Nat.shiftLeft_eq]
  omega

theorem shiftRightIn_eq_cons (v : Byte) (b : Bool) : shiftRightIn v b = BitVec.cons b (v.extractLsb' 1 7) := by
  have hv := v.isLt
  have hb := b.toNat_le
  apply BitVec.eq_of_toNat_eq
  simp only [shiftRightIn, BitVec.toNat_ofNat, BitVec.toNat_cons', BitVec.extractLsb'_toNat, Nat.shiftLeft_eq,
    Nat.shiftRight_eq_div_pow]
  omega

theorem getLsbD_shiftLeftIn {k : Nat} (hk : k < 8) (v : Byte) (b : Bool) :
    (shiftLeftIn v b).getLsbD k = if k = 0 then b else v.getLsbD (k - 1) := by
  rw [shiftLeftIn_eq_shiftConcat, BitVec.getLsbD_shiftConcat, decide_eq_true hk, Bool.true_and]

theorem getLsbD_shiftRightIn {k : Nat} (hk : k < 8) (v : Byte) (b : Bool) :
    (shiftRightIn v b).getLsbD k = if k = 7 then b else v.getLsbD (k + 1) := by
  rw [shiftRightIn_eq_cons, BitVec.getLsbD_cons, BitVec.getLsbD_extractLsb', Nat.add_comm]
  split
  · rfl
  · rw [decide_eq_true (by omega), Bool.true_and]

/-! ## The seven operations (R304 to R313) -/

namespace RotOp
variable (op : RotOp)

/-- The model's bit movement of each operation, `cy` being the old carry. -/
def move (cy : Bool) : RotOp → Byte → Byte × Bool
  | .rlc => rlcBits
  | .rl => rlBits cy
  | .rrc => rrcBits
  | .rr => rrBits cy
  | .sla => slaBits
  | .sra => sraBits
  | .srl => srlBits

theorem move_carry (cy : Bool) (v : Byte) : (op.move cy v).2 = op.carryOut v := by
  cases op <;> rfl

/-- Each operation is one of the two shifts; where a bit rotates round, the index wraps to the bit that enters. -/
theorem gives_move (cy : Bool) (v : Byte) : op.gives cy v (op.move cy v).1 := by
  intro k hk
  cases op with
  | rl | sla => exact getLsbD_shiftLeftIn hk v _
  | rr | sra | srl => exact getLsbD_shiftRightIn hk v _
  | rlc =>
    refine (getLsbD_shiftLeftIn hk v _).trans ?_
    split
    · next h => rw [h, bit]
    · next h => rw [bit, show (k + 7) % 8 = k - 1 by omega]
  | rrc =>
    refine (getLsbD_shiftRightIn hk v _).trans ?_
    split
    · next h => rw [h, bit]
    · next h => rw [bit, Nat.mod_eq_of_lt (by omega)]

end RotOp

/-! ## The rotates of A (R300 to R303) -/

/-- The result of a one-byte rotate of A. -/
def RotatesA (op : RotOp) (s : State) (r : Result) : Prop :=
  ∃ t, r = .next t ∧ op.gives s.flags.c s.a t.a ∧ t.flags.c = op.carryOut s.a ∧
    t.flags.h = false ∧ t.flags.n = false ∧ t.flags.s = s.flags.s ∧ t.flags.z = s.flags.z ∧
    t.flags.pv = s.flags.pv ∧ changesOnly [.reg .a, .f, .pc, .draws] s t

theorem rotatesA_rotateA (op : RotOp) (s : State) :
    RotatesA op s (.next ((s.rotateA (op.move s.flags.c s.a)).advance 1)) := by
  obtain ⟨t, hexec, -, ha, hf, hframe⟩ :=
    putsAFlags_setA_writeFlags (op.move s.flags.c s.a).1
      { s.flags with c := (op.move s.flags.c s.a).2, n := false, h := false } 1 s
  refine ⟨t, hexec, ?_⟩
  rw [ha, hf]
  exact ⟨op.gives_move s.flags.c s.a, op.move_carry s.flags.c s.a, rfl, rfl, rfl, rfl, rfl, hframe⟩

/-- Settles O50: each of the four is the rotate of A by its operation's movement. -/
theorem rotateAccumulator : Obligations.RotateAccumulator := by
  unfold Obligations.RotateAccumulator
  intro s
  change ∀ p : Instr × RotOp, p ∈ _ → RotatesA p.2 s (exec p.1 s)
  simp only [List.forall_mem_cons]
  exact ⟨rotatesA_rotateA .rlc s, rotatesA_rotateA .rl s, rotatesA_rotateA .rrc s, rotatesA_rotateA .rr s, by simp⟩

/-! ## The CB page (R304 to R313) -/

/-- How many bytes a CB-page instruction with the operand has (R304 to R313, R330 to R338). -/
def Place.cbLength : Place → Word
  | .reg _ => 2
  | .atHL => 2
  | .atIX _ => 4
  | .atIY _ => 4

namespace RotOp
variable (op : RotOp) (m : Place) (s : State)

/-- The model's operation on a byte, which takes the carry from the state. -/
def onByte : Byte → State → Byte × State := rotateByte fun t => op.move t.flags.c

theorem frame_onByte (v : Byte) : changesOnly [.f, .draws] s (op.onByte v s).2 := frame_rotateByte s _ v

/-- Every form of every operation: take the byte to the operation and back, and move PC on. -/
theorem exec_instr : exec (op.instr m) s = .next ((m.update op.onByte s).advance m.cbLength) := by
  cases m with
  | reg r => cases op <;> rfl
  | atHL => cases op <;> rfl
  | atIX d => cases op <;> rfl
  | atIY d => cases op <;> rfl

/-- The byte written back: reading the operand has not changed the carry. -/
theorem onByte_after (v : Byte) : (op.onByte v (m.source.after s)).1 = (op.move s.flags.c v).1 :=
  congrArg (fun x : FlagBits => (op.move x.c v).1) (m.source.after_flags s)

/-- All six flags after a rotate or shift of a place. -/
theorem flags_update_onByte :
    (m.update op.onByte s).flags =
      byteFlags (op.move s.flags.c (m.source.value s)).1 (op.carryOut (m.source.value s)) := by
  simp [m.flags_update, onByte, rotateByte, move_carry]

end RotOp

theorem parityOutcome_byteFlags (res : Byte) (c : Bool) : parityOutcome res (byteFlags res c) :=
  ⟨signZero_of_msb_of_beq rfl rfl, parity8_eq_evenParity res, rfl⟩

/-- Settles O51: the moved byte, written back to the operand's place. -/
theorem rotateAndShift : Obligations.RotateAndShift := by
  unfold Obligations.RotateAndShift
  intro op m s
  obtain ⟨hholds, htrace, hframe⟩ := m.update_advance s (fun v t => op.frame_onByte t v) m.cbLength
  rw [op.onByte_after] at hholds htrace
  refine ⟨_, _, op.exec_instr m s, hholds, op.gives_move _ _, ?_⟩
  rw [State.advance_flags, op.flags_update_onByte]
  exact ⟨rfl, parityOutcome_byteFlags _ _, rfl, htrace, hframe⟩

/-! ## RLD and RRD (R314, R315) -/

theorem toNat_joinNibbles {hi lo : Nat} (hhi : hi < 16) (hlo : lo < 16) :
    (joinNibbles hi lo).toNat = hi * 16 + lo := by
  rw [joinNibbles, BitVec.toNat_ofNat]
  omega

/-- The state after RLD and RRD, `v` being the byte for A and `w` the one for HL. -/
def State.putDigits (v w : Byte) (s : State) : State :=
  (((s.read8 s.hl).2.write8 s.hl w).setAWithByteFlags v).advance 2

/-- The result of RLD and RRD, `v` being the byte for A and `w` the one for HL. -/
def PutsDigits (v w : Byte) (s : State) (r : Result) : Prop :=
  ∃ t, r = .next t ∧ t.a = v ∧ landed s.hl w s t ∧ parityOutcome t.a t.flags ∧ t.flags.h = false ∧
    t.flags.c = s.flags.c ∧ t.trace = s.trace ++ readEvents s.hl s ++ writeEvents s.hl w s ∧
    changesOnly [.reg .a, .byte s.hl, .f, .pc, .trace, .draws] s t

section
variable (v w : Byte) (s : State)

theorem State.landed_read8_write8 (a : Word) : landed a w s ((s.read8 a).2.write8 a w) := by
  have h := (s.read8 a).2.landed_write8 a w
  rwa [landed, State.read8_kindAt, State.read8_byteAt] at h

theorem State.trace_read8_write8 (a : Word) :
    ((s.read8 a).2.write8 a w).trace = s.trace ++ readEvents a s ++ writeEvents a w s := by
  rw [State.trace_write8, State.trace_read8, writeEvents, State.read8_kindAt, writeEvents]

/-- All six flags after the write of A that ends RLD and RRD: those of its byte, C as before (R314). -/
theorem State.flags_setAWithByteFlags : (s.setAWithByteFlags v).flags = byteFlags v s.flags.c :=
  State.flags_writeFlags _ _

theorem State.frame_read8_write8 (a : Word) :
    changesOnly [.byte a, .trace, .draws] s ((s.read8 a).2.write8 a w) :=
  ((s.frame_read8 a).mono (by simp)).andThen (State.frame_write8 _ _ _) (by simp)

theorem putsDigits_putDigits : PutsDigits v w s (.next (s.putDigits v w)) := by
  have hend := (((s.read8 s.hl).2.write8 s.hl w).frame_setAWithByteFlags v).advance 2
  have hflags : (s.putDigits v w).flags = byteFlags v s.flags.c := by
    simp [State.putDigits, State.flags_setAWithByteFlags]
  have ha : (s.putDigits v w).a = v := rfl
  refine ⟨_, rfl, ha, (hend (.byte s.hl) (by simp)).trans (s.landed_read8_write8 w s.hl), ?_⟩
  rw [ha, hflags]
  exact ⟨parityOutcome_byteFlags v s.flags.c, rfl, rfl,
    (hend .trace (by simp)).trans (s.trace_read8_write8 w s.hl),
    ((s.frame_read8_write8 w s.hl).mono (by simp)).andThen hend (by simp)⟩

end

/-- Settles O52: A keeps its high nibble, and each of the four nibbles written is one of those read. -/
theorem rotateDigits : Obligations.RotateDigits := by
  unfold Obligations.RotateDigits
  intro s
  have ha := s.a.isLt
  have hv := (s.read8 s.hl).1.isLt
  constructor
  · obtain ⟨t, hexec, hta, hrest⟩ :=
      putsDigits_putDigits (joinNibbles (s.a.toNat / 16) ((s.read8 s.hl).1.toNat / 16))
        (joinNibbles ((s.read8 s.hl).1.toNat % 16) (s.a.toNat % 16)) s
    refine ⟨t, _, hexec, ?_, toNat_joinNibbles (by omega) (by omega), hrest⟩
    rw [hta, toNat_joinNibbles (by omega) (by omega)]
  · obtain ⟨t, hexec, hta, hrest⟩ :=
      putsDigits_putDigits (joinNibbles (s.a.toNat / 16) ((s.read8 s.hl).1.toNat % 16))
        (joinNibbles (s.a.toNat % 16) ((s.read8 s.hl).1.toNat / 16)) s
    refine ⟨t, _, hexec, ?_, toNat_joinNibbles (by omega) (by omega), hrest⟩
    rw [hta, toNat_joinNibbles (by omega) (by omega)]

end Sys2Proof.Machine
end

section
/-!
PROOF of O16, O17, O21 and O23: what every instruction and every step keeps.

One pass over the instructions (`exec_maintains`) says of each that it keeps memory canonical and that it writes no
control state but the pieces of which it is a writer (`Piece.keptBy`). The first rests on the fact that memory is changed
by writes of one byte alone, each of which keeps the form; the second on the frames of the shared operations. At a
boundary that executes no instruction the step is computed; what an acceptance can answer is said once
(`State.next_of_acceptInt`).
-/

namespace Sys2Proof.Machine

/-! ## Memory in canonical form -/

/-- From `s` to `t` memory stays in canonical form. -/
def KeepsCanonical (s t : State) : Prop := s.memoryCanonical → t.memoryCanonical

namespace KeepsCanonical
variable {s t u : State}

theorem ofMem (h : t.mem = s.mem) : KeepsCanonical s t := fun hs => by
  rwa [State.memoryCanonical, h]

theorem trans (h : KeepsCanonical s t) (h' : KeepsCanonical t u) : KeepsCanonical s u := h' ∘ h

end KeepsCanonical

section
variable (s : State)

theorem State.canonical_write8 (a : Word) (v : Byte) : KeepsCanonical s (s.write8 a v) := s.wf_write8 a v

theorem State.canonical_write16 (a v : Word) : KeepsCanonical s (s.write16 a v) := s.wf_write16 a v

theorem State.canonical_push16 (v : Word) : KeepsCanonical s (s.push16 v) := s.wf_push16 v

theorem State.canonical_callTo (target returnTo : Word) : KeepsCanonical s (s.callTo target returnTo) :=
  s.wf_push16 returnTo

theorem State.canonical_read8_write8 (a b : Word) (v : Byte) : KeepsCanonical s ((s.read8 a).2.write8 b v) :=
  (KeepsCanonical.ofMem (s.read8_mem a)).trans (State.canonical_write8 _ b v)

theorem State.canonical_updateAt {op : Byte → State → Byte × State} (hop : ∀ v t, (op v t).2.mem = t.mem)
    (a : Word) : KeepsCanonical s (s.updateAt a op) :=
  (KeepsCanonical.ofMem ((hop _ _).trans (s.read8_mem a))).trans (State.canonical_write8 _ _ _)

theorem State.canonical_exchangeTop {put : Word → State → State} (hput : ∀ w t, (put w t).mem = t.mem)
    (old : Word) : KeepsCanonical s (s.exchangeTop old put) :=
  (((KeepsCanonical.ofMem (s.read16_mem s.sp)).trans (State.canonical_write8 _ _ _)).trans
    (State.canonical_write8 _ _ _)).trans (.ofMem (hput _ _))

/-- What follows the write of a block transfer leaves memory alone. -/
theorem State.mem_blockLoad (delta : Word) :
    (s.blockLoad delta).mem = ((s.read8 s.hl).2.write8 s.de (s.read8 s.hl).1).mem := by
  simp only [State.blockLoad, State.blockLoadFlags, State.writeFlags_mem, State.setBC_mem, State.setHL_mem,
    State.setDE_mem]

theorem State.canonical_blockLoad (delta : Word) : KeepsCanonical s (s.blockLoad delta) :=
  (s.canonical_read8_write8 s.hl s.de _).trans (.ofMem (s.mem_blockLoad delta))

theorem State.mem_blockIoFlags : s.blockIoFlags.mem = s.mem := by
  simp only [State.blockIoFlags, State.writeFlags_mem, State.anyBit_mem]

/-- What follows the write of a block input leaves memory alone. -/
theorem State.mem_blockIn (delta : Word) :
    (s.blockIn delta).mem = ((s.portIn s.bc).2.write8 s.hl (s.portIn s.bc).1).mem := by
  simp only [State.blockIn, State.mem_blockIoFlags, State.setHL_mem, State.setB_mem]

theorem State.canonical_blockIn (delta : Word) : KeepsCanonical s (s.blockIn delta) :=
  (State.canonical_write8 (s.portIn s.bc).2 _ _).trans (.ofMem (s.mem_blockIn delta))

end

/-! ## The writers of the control state (R439, R22, R34, R35, R38) -/

/-- A piece of the control state of which the instruction is no writer. The pieces that instructions compute with (A to
L, F, IX, IY, SP, PC, memory, the trace and the free values) and the memory map are not spoken of. -/
def Piece.keptBy (i : Instr) : Piece → Bool
  | .iff1 => i != .di && i != .ei && i != .retn
  | .iff2 => i != .di && i != .ei
  | .im => i != .im0 && i != .im1 && i != .im2
  | .halted => i != .halt
  | .i => i != .ldIA
  | .r => i != .ldRA
  | .altA | .altF => i != .exAFAF
  | .altB | .altC | .altD | .altE | .altH | .altL => i != .exx
  | .eiShadow => i != .ei
  | .nmiPending | .now | .inputs => true
  | _ => false

/-- The pieces are none that the instruction keeps. -/
def Free (i : Instr) (ps : List Piece) : Prop := ps.all (fun p => !p.keptBy i) = true

theorem WordReg.free_pieces (i : Instr) (w : WordReg) : Free i w.pieces := by
  cases w with
  | dd p => cases p <;> rfl
  | qq q => cases q <;> rfl
  | ix | iy => rfl

/-! ## Every instruction -/

/-- What an instruction that leads from `s` to `t` maintains. -/
structure Maintains (i : Instr) (s t : State) : Prop where
  control : ∀ p : Piece, p.keptBy i = true → p.same s t
  canonical : KeepsCanonical s t

/-- Where the result is a next state, the instruction maintains what it has to. -/
def ResultMaintains (i : Instr) (s : State) (x : Result) : Prop := ∀ t, x = .next t → Maintains i s t

namespace Maintains
variable {i : Instr} {s t u : State} {ps : List Piece}

/-- From a frame, and from what is known of memory: where nothing is said, it is the same by computation. -/
theorem ofFrame (h : changesOnly ps s t) (hmem : KeepsCanonical s t := by exact .ofMem rfl)
    (hps : Free i ps := by rfl) : Maintains i s t where
  control p hp := h p fun hmem => by simpa [hp] using List.all_eq_true.mp hps p hmem
  canonical := hmem

theorem trans (h : Maintains i s t) (h' : Maintains i t u) : Maintains i s u where
  control p hp := by
    have before := h.control p hp
    have after := h'.control p hp
    cases p <;> exact Eq.trans after before
  canonical := h.canonical.trans h'.canonical

/-- One more framed operation, which leaves memory alone. -/
theorem andThen (h : Maintains i s t) (h' : changesOnly ps t u) (hmem : u.mem = t.mem := by rfl)
    (hps : Free i ps := by rfl) : Maintains i s u := h.trans (ofFrame h' (.ofMem hmem) hps)

theorem ite (taken : Bool) (h : Maintains i s t) (h' : Maintains i s u) :
    Maintains i s (if taken then t else u) := by
  cases taken
  · exact h'
  · exact h

end Maintains

namespace ResultMaintains
variable {i : Instr} {s u : State} {ps : List Piece}

theorem next (h : Maintains i s u) : ResultMaintains i s (.next u) := by
  intro t ht
  cases ht
  exact h

theorem advance {k : Word} (h : Maintains i s u) : ResultMaintains i s (.next (u.advance k)) :=
  .next (h.andThen (u.frame_advance k))

/-- A framed operation, then `advance`. -/
theorem framed {k : Word} (h : changesOnly ps s u) (hmem : KeepsCanonical s u := by exact .ofMem rfl)
    (hps : Free i ps := by rfl) : ResultMaintains i s (.next (u.advance k)) := .advance (.ofFrame h hmem hps)

end ResultMaintains

theorem State.frame_returnFromNmi (s : State) :
    changesOnly [.pc, .sp, .trace, .draws, .iff1] s s.returnFromNmi :=
  (s.frame_returnPop.mono (by simp)).andThen (qs := [.iff1])
    (s.returnPop.frame_writeControl s.returnPop.iff2 s.returnPop.iff2 s.returnPop.halted s.returnPop.eiShadow
      s.returnPop.im (by simp [controlPieces, Piece.same])) (by simp)

section
variable (s : State)

theorem State.mem_useAt {op : Byte → State → State} (hop : ∀ v t, (op v t).mem = t.mem) (a : Word) :
    (s.useAt a op).mem = s.mem := (hop _ _).trans (s.read8_mem a)

theorem State.mem_updateReg {op : Byte → State → Byte × State} (hop : ∀ v t, (op v t).2.mem = t.mem) (q : Reg8) :
    (s.updateReg q op).mem = s.mem := (State.setReg8_mem _ q _).trans (hop _ _)

theorem State.mem_testBit (b : Nat) (v : Byte) : (s.testBit b v).mem = s.mem := by
  simp only [State.testBit, State.writeFlags_mem, State.anyBit_mem]

theorem State.mem_blockCompare (delta : Word) : (s.blockCompare delta).mem = s.mem := by
  simp only [State.blockCompare, State.writeFlags_mem, State.setBC_mem, State.setHL_mem, State.read8_mem]

theorem State.mem_blockOut (delta : Word) : (s.blockOut delta).mem = s.mem := by
  simp only [State.blockOut, State.mem_blockIoFlags, State.setHL_mem, State.portOut_mem, State.setB_mem,
    State.read8_mem]

theorem State.mem_opAdd (v : Byte) : (s.opAdd v).mem = s.mem := rfl
theorem State.mem_opAdc (v : Byte) : (s.opAdc v).mem = s.mem := rfl
theorem State.mem_opSub (v : Byte) : (s.opSub v).mem = s.mem := rfl
theorem State.mem_opSbc (v : Byte) : (s.opSbc v).mem = s.mem := rfl
theorem State.mem_opAnd (v : Byte) : (s.opAnd v).mem = s.mem := rfl
theorem State.mem_opOr (v : Byte) : (s.opOr v).mem = s.mem := rfl
theorem State.mem_opXor (v : Byte) : (s.opXor v).mem = s.mem := rfl
theorem State.mem_opCp (v : Byte) : (s.opCp v).mem = s.mem := rfl

theorem State.mem_add16Flags (x : Arith 16) : (s.add16Flags x).mem = s.mem := by
  simp only [State.add16Flags, State.writeFlags_mem, State.anyBit_mem]

theorem State.mem_carry16Flags (x : Arith 16) (n : Bool) : (s.carry16Flags x n).mem = s.mem := by
  simp only [State.carry16Flags, State.writeFlags_mem, State.anyBit_mem]

theorem State.mem_loadAFromSpecial (v : Byte) : (s.loadAFromSpecial v).mem = s.mem := by
  simp only [State.loadAFromSpecial]
  cases s.intFollows <;> rfl

end

theorem exec_maintains (i : Instr) (s : State) : ResultMaintains i s (exec i s) := by
  cases i with
  -- 8-bit loads
  | ldRegReg q _ | ldRegImm q _ => exact .framed (s.frame_setReg8 q _) (.ofMem (s.setReg8_mem q _))
  | ldRegAtHL q | ldRegAtIX q _ | ldRegAtIY q _ =>
    exact .framed (s.frame_loadRegAt q _) (.ofMem ((State.setReg8_mem _ q _).trans (s.read8_mem _)))
  | ldAAtBC | ldAAtDE | ldAAtNN _ => exact .framed (s.frame_loadRegAt .a _) (.ofMem (s.read8_mem _))
  | ldAtHLReg _ | ldAtIXReg _ _ | ldAtIYReg _ _ | ldAtHLImm _ | ldAtIXImm _ _ | ldAtIYImm _ _
  | ldAtBCA | ldAtDEA | ldAtNNA _ => exact .framed (s.frame_write8 _ _) (s.canonical_write8 _ _)
  | ldAI | ldAR => exact .framed (s.frame_loadAFromSpecial _) (.ofMem (s.mem_loadAFromSpecial _))
  | ldIA => exact .framed (s.frame_writeI s.a)
  | ldRA => exact .framed (s.frame_writeR s.a)
  -- 16-bit loads, PUSH and POP
  | ldPairImm p _ | incPair p | decPair p =>
    exact .framed (s.frame_setPairDD p _) (.ofMem (s.setPairDD_mem p _)) (WordReg.free_pieces _ _)
  | ldIXImm _ | incIX | decIX => exact .framed (s.frame_setIX _)
  | ldIYImm _ | incIY | decIY => exact .framed (s.frame_setIY _)
  | ldHLAtNN _ => exact .framed (s.frame_load16At (fun w t => t.frame_setHL w) _) (.ofMem (s.read16_mem _))
  | ldPairAtNN p _ =>
    exact .framed (s.frame_load16At (fun w t => t.frame_setPairDD p w) _)
      (.ofMem ((State.setPairDD_mem _ p _).trans (s.read16_mem _))) (WordReg.free_pieces _ (.dd p))
  | ldIXAtNN _ => exact .framed (s.frame_load16At (fun w t => t.frame_setIX w) _) (.ofMem (s.read16_mem _))
  | ldIYAtNN _ => exact .framed (s.frame_load16At (fun w t => t.frame_setIY w) _) (.ofMem (s.read16_mem _))
  | ldAtNNHL _ | ldAtNNPair _ _ | ldAtNNIX _ | ldAtNNIY _ =>
    exact .framed (s.frame_write16 _ _) (s.canonical_write16 _ _)
  | ldSPHL | ldSPIX | ldSPIY => exact .framed (s.frame_setSP _)
  | pushPair _ | pushIX | pushIY => exact .framed (s.frame_push16 _) (s.canonical_push16 _)
  | popPair q =>
    exact .framed (s.frame_popInto fun w t => t.frame_setPairQQ q w)
      (.ofMem ((State.setPairQQ_mem _ q _).trans s.pop16_mem)) (WordReg.free_pieces _ (.qq q))
  | popIX => exact .framed (s.frame_popInto fun w t => t.frame_setIX w) (.ofMem s.pop16_mem)
  | popIY => exact .framed (s.frame_popInto fun w t => t.frame_setIY w) (.ofMem s.pop16_mem)
  -- Exchange, block transfer, block search
  | exDEHL => exact .framed (s.frame_setDE_setHL _ _)
  | exAFAF => exact .framed s.frame_exchangeAF
  | exx => exact .framed s.frame_exchangeAll
  | exAtSPHL =>
    exact .framed (s.frame_exchangeTop (fun w t => t.frame_setHL w) _)
      (s.canonical_exchangeTop (fun w t => t.setHL_mem w) _)
  | exAtSPIX =>
    exact .framed (s.frame_exchangeTop (fun w t => t.frame_setIX w) _)
      (s.canonical_exchangeTop (fun w t => t.setIX_mem w) _)
  | exAtSPIY =>
    exact .framed (s.frame_exchangeTop (fun w t => t.frame_setIY w) _)
      (s.canonical_exchangeTop (fun w t => t.setIY_mem w) _)
  | ldi | ldd => exact .framed (s.frame_blockLoad _) (s.canonical_blockLoad _)
  | ldir | lddr =>
    exact .next ((Maintains.ofFrame (s.frame_blockLoad _) (s.canonical_blockLoad _)).andThen
      (State.frame_repeatWhile _ _) (State.repeatWhile_mem _ _))
  | cpi | cpd => exact .framed (s.frame_blockCompare _) (.ofMem (s.mem_blockCompare _))
  | cpir | cpdr =>
    exact .next ((Maintains.ofFrame (s.frame_blockCompare _) (.ofMem (s.mem_blockCompare _))).andThen
      (State.frame_repeatWhile _ _) (State.repeatWhile_mem _ _))
  -- 8-bit arithmetic and logic
  | addReg _ | addImm _ => exact .framed (s.frame_opAdd _)
  | adcReg _ | adcImm _ => exact .framed (s.frame_opAdc _)
  | subReg _ | subImm _ => exact .framed (s.frame_opSub _)
  | sbcReg _ | sbcImm _ => exact .framed (s.frame_opSbc _)
  | andReg _ | andImm _ => exact .framed (s.frame_opAnd _)
  | orReg _ | orImm _ => exact .framed (s.frame_opOr _)
  | xorReg _ | xorImm _ => exact .framed (s.frame_opXor _)
  | cpReg _ | cpImm _ => exact .framed (s.frame_opCp _)
  | addAtHL | addAtIX _ | addAtIY _ =>
    exact .framed (s.frame_useAt (fun v t => t.frame_opAdd v) _) (.ofMem (s.mem_useAt (fun v t => t.mem_opAdd v) _))
  | adcAtHL | adcAtIX _ | adcAtIY _ =>
    exact .framed (s.frame_useAt (fun v t => t.frame_opAdc v) _) (.ofMem (s.mem_useAt (fun v t => t.mem_opAdc v) _))
  | subAtHL | subAtIX _ | subAtIY _ =>
    exact .framed (s.frame_useAt (fun v t => t.frame_opSub v) _) (.ofMem (s.mem_useAt (fun v t => t.mem_opSub v) _))
  | sbcAtHL | sbcAtIX _ | sbcAtIY _ =>
    exact .framed (s.frame_useAt (fun v t => t.frame_opSbc v) _) (.ofMem (s.mem_useAt (fun v t => t.mem_opSbc v) _))
  | andAtHL | andAtIX _ | andAtIY _ =>
    exact .framed (s.frame_useAt (fun v t => t.frame_opAnd v) _) (.ofMem (s.mem_useAt (fun v t => t.mem_opAnd v) _))
  | orAtHL | orAtIX _ | orAtIY _ =>
    exact .framed (s.frame_useAt (fun v t => t.frame_opOr v) _) (.ofMem (s.mem_useAt (fun v t => t.mem_opOr v) _))
  | xorAtHL | xorAtIX _ | xorAtIY _ =>
    exact .framed (s.frame_useAt (fun v t => t.frame_opXor v) _) (.ofMem (s.mem_useAt (fun v t => t.mem_opXor v) _))
  | cpAtHL | cpAtIX _ | cpAtIY _ =>
    exact .framed (s.frame_useAt (fun v t => t.frame_opCp v) _) (.ofMem (s.mem_useAt (fun v t => t.mem_opCp v) _))
  | incReg q =>
    exact .framed (s.frame_updateReg (fun v t => frame_incByte t v) q)
      (.ofMem (s.mem_updateReg (fun _ _ => rfl) q))
  | decReg q =>
    exact .framed (s.frame_updateReg (fun v t => frame_decByte t v) q)
      (.ofMem (s.mem_updateReg (fun _ _ => rfl) q))
  | incAtHL | incAtIX _ | incAtIY _ =>
    exact .framed (s.frame_updateAt (fun v t => frame_incByte t v) _) (s.canonical_updateAt (fun _ _ => rfl) _)
  | decAtHL | decAtIX _ | decAtIY _ =>
    exact .framed (s.frame_updateAt (fun v t => frame_decByte t v) _) (s.canonical_updateAt (fun _ _ => rfl) _)
  -- General arithmetic and CPU control
  | daa | cpl | neg => exact .advance (.andThen (.ofFrame (s.frame_setA _)) (State.frame_writeFlags _ _))
  | ccf | scf => exact .framed (s.frame_writeCarry _ _)
  | nop => exact .framed (changesOnly.refl [] s)
  | halt =>
    exact .framed (ps := [.halted]) (s.frame_writeControl s.iff1 s.iff2 true s.eiShadow s.im
      (by simp [controlPieces, Piece.same]))
  | di =>
    exact .framed (ps := [.iff1, .iff2]) (s.frame_writeControl false false s.halted s.eiShadow s.im
      (by simp [controlPieces, Piece.same]))
  | ei =>
    exact .framed (ps := [.iff1, .iff2, .eiShadow]) (s.frame_writeControl true true s.halted true s.im
      (by simp [controlPieces, Piece.same]))
  | im0 | im1 | im2 =>
    exact .framed (ps := [.im]) (s.frame_writeControl s.iff1 s.iff2 s.halted s.eiShadow _
      (by simp [controlPieces, Piece.same]))
  -- 16-bit arithmetic
  | addHLPair _ =>
    exact .advance (.andThen (.ofFrame (s.frame_setHL _)) (State.frame_add16Flags _ _)
      (State.mem_add16Flags _ _))
  | adcHLPair _ | sbcHLPair _ =>
    exact .advance (.andThen (.ofFrame (s.frame_setHL _)) (State.frame_carry16Flags _ _ _)
      (State.mem_carry16Flags _ _ _))
  | addIXPair _ =>
    exact .advance (.andThen (.ofFrame (s.frame_setIX _)) (State.frame_add16Flags _ _)
      (State.mem_add16Flags _ _))
  | addIYPair _ =>
    exact .advance (.andThen (.ofFrame (s.frame_setIY _)) (State.frame_add16Flags _ _)
      (State.mem_add16Flags _ _))
  -- Rotate and shift
  | rlca | rla | rrca | rra => exact .framed (s.frame_rotateA _)
  | rlcReg q | rlReg q | rrcReg q | rrReg q | slaReg q | sraReg q | srlReg q =>
    exact .framed (s.frame_updateReg (fun v t => frame_rotateByte t _ v) q)
      (.ofMem (s.mem_updateReg (fun _ _ => rfl) q))
  | rlcAtHL | rlcAtIX _ | rlcAtIY _ | rlAtHL | rlAtIX _ | rlAtIY _ | rrcAtHL | rrcAtIX _ | rrcAtIY _
  | rrAtHL | rrAtIX _ | rrAtIY _ | slaAtHL | slaAtIX _ | slaAtIY _ | sraAtHL | sraAtIX _ | sraAtIY _
  | srlAtHL | srlAtIX _ | srlAtIY _ =>
    exact .framed (s.frame_updateAt (fun v t => frame_rotateByte t _ v) _) (s.canonical_updateAt (fun _ _ => rfl) _)
  | rld | rrd =>
    exact .advance ((Maintains.ofFrame (s.frame_read8_write8 _ s.hl) (s.canonical_read8_write8 s.hl s.hl _)).andThen
      (State.frame_setAWithByteFlags _ _))
  -- Bit set, reset and test
  | bitReg b _ => exact .framed (s.frame_testBit b _) (.ofMem (s.mem_testBit b _))
  | bitAtHL b | bitAtIX b _ | bitAtIY b _ =>
    exact .framed (s.frame_useAt (fun v t => t.frame_testBit b v) _)
      (.ofMem (s.mem_useAt (fun v t => t.mem_testBit b v) _))
  | setReg b q =>
    exact .framed (s.frame_updateReg (fun v t => frame_setBitByte t b v) q)
      (.ofMem (s.mem_updateReg (fun _ _ => rfl) q))
  | resReg b q =>
    exact .framed (s.frame_updateReg (fun v t => frame_resBitByte t b v) q)
      (.ofMem (s.mem_updateReg (fun _ _ => rfl) q))
  | setAtHL b | setAtIX b _ | setAtIY b _ =>
    exact .framed (s.frame_updateAt (fun v t => frame_setBitByte t b v) _) (s.canonical_updateAt (fun _ _ => rfl) _)
  | resAtHL b | resAtIX b _ | resAtIY b _ =>
    exact .framed (s.frame_updateAt (fun v t => frame_resBitByte t b v) _) (s.canonical_updateAt (fun _ _ => rfl) _)
  -- Jumps
  | jpImm _ | jpHL | jpIX | jpIY => exact .next (.ofFrame (s.frame_jumpTo _))
  | jpCond cc nn => exact .next (.ite (s.cond cc) (.ofFrame (s.frame_jumpTo nn)) (.ofFrame (s.frame_advance 3)))
  | jr e | jrC e | jrNC e | jrZ e | jrNZ e =>
    exact .next (.ofFrame (s.frame_jumpRelative _ e) (.ofMem (s.jumpRelative_mem _ e)))
  | djnz e =>
    exact .next ((Maintains.ofFrame (s.frame_setB _)).andThen (State.frame_jumpRelative _ _ e)
      (State.jumpRelative_mem _ _ e))
  -- Call and return
  | callImm _ | rst _ => exact .next (.ofFrame (s.frame_callTo _ _) (s.canonical_callTo _ _))
  | callCond cc nn =>
    exact .next (.ite (s.cond cc) (.ofFrame (s.frame_callTo nn _) (s.canonical_callTo nn _))
      (.ofFrame (s.frame_advance 3)))
  | ret | reti => exact .next (.ofFrame s.frame_returnPop (.ofMem s.returnPop_mem))
  | retCond cc =>
    exact .next (.ite (s.cond cc) (.ofFrame s.frame_returnPop (.ofMem s.returnPop_mem))
      (.ofFrame (s.frame_advance 1)))
  | retn => exact .next (.ofFrame s.frame_returnFromNmi (.ofMem s.returnPop_mem))
  -- Input and output
  | inAImm _ => exact .advance (.andThen (.ofFrame (s.frame_portIn _)) (State.frame_setA _ _))
  | inRegC q =>
    exact .advance (((Maintains.ofFrame (s.frame_portIn _)).andThen (State.frame_setReg8 _ q _)
      (State.setReg8_mem _ q _)).andThen (State.frame_writeFlags _ _))
  | ini | ind => exact .framed (s.frame_blockIn _) (s.canonical_blockIn _)
  | inir | indr =>
    exact .next ((Maintains.ofFrame (s.frame_blockIn _) (s.canonical_blockIn _)).andThen
      (State.frame_repeatWhileB _) (State.repeatWhileB_mem _))
  | outImmA _ | outCReg _ => exact .framed (s.frame_portOut _ _)
  | outi | outd => exact .framed (s.frame_blockOut _) (.ofMem (s.mem_blockOut _))
  | otir | otdr =>
    exact .next ((Maintains.ofFrame (s.frame_blockOut _) (.ofMem (s.mem_blockOut _))).andThen
      (State.frame_repeatWhileB _) (State.repeatWhileB_mem _))

/-- Settles O21: the flip-flops by the four instructions' own writes, all else by the writers of each piece. -/
theorem controlRegisterWriters : Obligations.ControlRegisterWriters := by
  unfold Obligations.ControlRegisterWriters
  intro i s t ht
  have kept := (exec_maintains i s t ht).control
  refine ⟨?_, ?_, fun h => ?_, fun h => ?_, fun h => ?_, fun h => ?_, fun h => ?_, fun h => ?_, fun h => ?_,
    kept .nmiPending rfl, kept .now rfl, kept .inputs rfl⟩
  · split
    case isTrue h => subst h; cases ht; rfl
    case isFalse hdi =>
      split
      case isTrue h => subst h; cases ht; rfl
      case isFalse hei =>
        split
        case isTrue h => subst h; cases ht; exact s.returnPop_iff2
        case isFalse hretn => exact kept .iff1 (by simp [Piece.keptBy, hdi, hei, hretn])
  · split
    case isTrue h => subst h; cases ht; rfl
    case isFalse hdi =>
      split
      case isTrue h => subst h; cases ht; rfl
      case isFalse hei => exact kept .iff2 (by simp [Piece.keptBy, hdi, hei])
  · by_contra hi
    exact h (kept .im (by simpa [Piece.keptBy, and_assoc] using hi))
  · by_contra hi
    exact h (kept .halted (by simpa [Piece.keptBy] using hi))
  · by_contra hi
    exact h (kept .i (by simpa [Piece.keptBy] using hi))
  · by_contra hi
    exact h (kept .r (by simpa [Piece.keptBy] using hi))
  · have hi : (i != .exAFAF) = true := by simpa using h
    exact ⟨kept .altA hi, kept .altF hi⟩
  · have hi : (i != .exx) = true := by simpa using h
    exact ⟨kept .altB hi, kept .altC hi, kept .altD hi, kept .altE hi, kept .altH hi, kept .altL hi⟩
  · exact kept .eiShadow (by simpa [Piece.keptBy] using h)

/-- Settles O23: each meaning is a next state. -/
theorem everyInstructionCompletes : Obligations.EveryInstructionCompletes := by
  unfold Obligations.EveryInstructionCompletes
  exact exec_next

/-! ## What a step is, from the state it ends in (R422) -/

/-- What the acceptance of a non-maskable interrupt does before it enters the handler (R424). -/
def State.acknowledgeNmi (s : State) : State :=
  { s.countFetches 1 with nmiPending := false, halted := false, eiShadow := false, iff1 := false }

theorem State.acceptNmi_eq (s : State) : s.acceptNmi = s.acknowledgeNmi.enterHandler 0x0066 := rfl

/-- An acceptance that gives a next state enters a handler, or in mode 2 the one of the table. -/
theorem State.next_of_acceptInt {s t : State} (h : s.acceptInt = .next t) :
    (∃ target, t = s.acknowledgeInt.enterHandler target) ∨ t = s.acknowledgeInt.enterMode2 := by
  simp only [State.acceptInt] at h
  cases hm : s.acknowledgeInt.im with
  | im0 =>
    simp only [hm] at h
    split at h
    · cases h; exact .inl ⟨_, rfl⟩
    · cases h
  | im1 => simp only [hm] at h; cases h; exact .inl ⟨_, rfl⟩
  | im2 => simp only [hm] at h; cases h; exact .inr rfl

/-- A step that runs an instruction and gives a next state is the instruction decoded from the fetch. -/
theorem exec_of_step {s t : State} (h : s.runsInstruction) (ht : step s = .next t) :
    ∃ i rest, decode s.atFetch.fetch.1 = .ok i rest ∧ exec i s.atFetch.fetch.2 = .next t := by
  cases hdec : decode s.atFetch.fetch.1 with
  | ok i rest => exact ⟨i, rest, rfl, step_of_fetch h hdec ▸ ht⟩
  | reject why => rw [step_of_reject h hdec] at ht; cases ht

/-- What a step that gives a next state can be. -/
theorem step_next_cases {s t : State} (ht : step s = .next t) :
    t = s.sample.resetCpu ∨
    (s.takesNmi ∧ t = s.sample.acceptNmi) ∨
    (s.takesInt ∧ ∃ target, t = s.sample.acknowledgeInt.enterHandler target) ∨
    (s.takesInt ∧ t = s.sample.acknowledgeInt.enterMode2) ∨
    (s.staysHalted ∧ t = s.sample.countFetches 1) ∨
    (s.runsInstruction ∧ ∃ i rest, decode s.atFetch.fetch.1 = .ok i rest ∧ exec i s.atFetch.fetch.2 = .next t) := by
  obtain h | h | h | h | h := s.boundary_cases
  · rw [step_of_reset h] at ht
    cases ht
    exact .inl rfl
  · rw [step_of_takesNmi h] at ht
    cases ht
    exact .inr (.inl ⟨h, rfl⟩)
  · rw [step_of_takesInt h] at ht
    obtain htarget | hmode2 := State.next_of_acceptInt ht
    · exact .inr (.inr (.inl ⟨h, htarget⟩))
    · exact .inr (.inr (.inr (.inl ⟨h, hmode2⟩)))
  · rw [step_of_staysHalted h] at ht
    cases ht
    exact .inr (.inr (.inr (.inr (.inl ⟨h, rfl⟩))))
  · exact .inr (.inr (.inr (.inr (.inr ⟨h, exec_of_step h ht⟩))))

/-! ## Memory over a step -/

theorem State.mem_fetchBytes (n : Nat) (a : Word) (s : State) : (s.fetchBytes n a).2.mem = s.mem := by
  induction n generalizing a s with
  | zero => rfl
  | succ n ih => exact (ih _ _).trans (s.read8_mem a)

theorem State.mem_fetch (s : State) : s.fetch.2.mem = s.mem := by
  simp only [State.fetch]
  split <;> simp only [State.countFetches_mem, State.mem_fetchBytes, State.read8_mem]

theorem State.canonical_enterMode2 (s : State) : KeepsCanonical s s.enterMode2 :=
  (s.canonical_push16 s.pc).trans (.ofMem (State.read16_mem _ _))

theorem State.mem_resetCpu (s : State) : s.resetCpu.mem = s.mem := rfl

theorem step_keepsCanonical {s t : State} (ht : step s = .next t) : KeepsCanonical s t := by
  have sampled : KeepsCanonical s s.sample := .ofMem s.sample_mem
  have acknowledged : KeepsCanonical s s.sample.acknowledgeInt := sampled.trans (.ofMem rfl)
  obtain rfl | ⟨-, rfl⟩ | ⟨-, target, rfl⟩ | ⟨-, rfl⟩ | ⟨-, rfl⟩ | ⟨-, i, rest, -, hexec⟩ := step_next_cases ht
  · exact sampled.trans (.ofMem s.sample.mem_resetCpu)
  · rw [State.acceptNmi_eq]
    exact (sampled.trans (.ofMem rfl)).trans (State.canonical_callTo s.sample.acknowledgeNmi _ _)
  · exact acknowledged.trans (State.canonical_callTo _ target _)
  · exact acknowledged.trans (State.canonical_enterMode2 _)
  · exact sampled.trans (.ofMem (s.sample.countFetches_mem 1))
  · have fetched : KeepsCanonical s s.atFetch.fetch.2 := .ofMem s.atFetch.mem_fetch
    exact fetched.trans (exec_maintains i _ t hexec).canonical

/-- Settles O16: a step changes memory by writes of single bytes, if at all. -/
theorem stepKeepsMemoryCanonical : Obligations.StepKeepsMemoryCanonical := by
  unfold Obligations.StepKeepsMemoryCanonical
  exact fun s t hs ht => step_keepsCanonical ht hs

/-! ## The interrupt logic over a step (R439, R39) -/

theorem State.interruptsLegal_of_disabled {t : State} (hiff1 : t.iff1 = false) (hshadow : t.eiShadow = false) :
    t.interruptsLegal := by
  simp [State.interruptsLegal, hiff1, hshadow]

/-- The fetch clears the EI shadow and leaves the rest of the interrupt logic as it was. -/
theorem State.frame_fetched {s : State} (h : s.runsInstruction) :
    changesOnly [.r, .eiShadow, .now, .inputs, .trace, .draws] s s.atFetch.fetch.2 :=
  ((State.frame_atFetch h).mono (by simp)).andThen s.atFetch.frame_fetch (by simp)

theorem State.eiShadow_fetched (s : State) : s.atFetch.fetch.2.eiShadow = false :=
  s.atFetch.frame_fetch .eiShadow (by simp)

/-- An instruction that finds no EI shadow sets IFF1 only with IFF2 if it was so before, and a shadow is EI's. -/
theorem exec_keepsInterruptsLegal {i : Instr} {s t : State} (ht : exec i s = .next t) (hlegal : s.interruptsLegal)
    (hshadow : s.eiShadow = false) (hhalted : s.halted = false) : t.interruptsLegal := by
  obtain ⟨hlegal, -⟩ := hlegal
  obtain ⟨hiff1, hiff2, -, hhalt, -, -, -, -, hei, -⟩ := controlRegisterWriters i s t ht
  by_cases hi : i = .ei
  · have hhalted' : t.halted = false := by
      by_contra h
      cases hi.symm.trans (hhalt fun h' => h (h'.trans hhalted))
    simp [State.interruptsLegal, hiff1, hiff2, hi, hhalted']
  · refine ⟨?_, by simp [hei hi, hshadow]⟩
    rw [hiff1, hiff2, if_neg hi, if_neg hi]
    split
    · simp
    · split
      · exact id
      · exact hlegal

/-- A maskable interrupt is accepted only where no EI shadow stands. -/
theorem State.eiShadow_acknowledgeInt {s : State} (h : s.takesInt) : s.sample.acknowledgeInt.eiShadow = false := by
  show s.eiShadow = false
  obtain ⟨-, -, hint⟩ := h
  simpa using (Bool.and_eq_true_iff.mp hint).2

theorem State.interruptsLegal_enterMode2 {s : State} (hiff1 : s.iff1 = false) (hshadow : s.eiShadow = false) :
    s.enterMode2.interruptsLegal :=
  State.interruptsLegal_of_disabled (by simpa [State.enterMode2] using hiff1)
    (by simpa [State.enterMode2] using hshadow)

/-- Settles O17: reset and every acceptance clear IFF1 and leave no shadow; an instruction starts without a shadow, in
a CPU that runs. -/
theorem stepKeepsInterruptsLegal : Obligations.StepKeepsInterruptsLegal := by
  unfold Obligations.StepKeepsInterruptsLegal
  intro s t hlegal ht
  obtain rfl | ⟨-, rfl⟩ | ⟨hint, target, rfl⟩ | ⟨hint, rfl⟩ | ⟨-, rfl⟩ | ⟨hruns, i, rest, -, hexec⟩ :=
    step_next_cases ht
  · exact State.interruptsLegal_of_disabled rfl rfl
  · exact State.interruptsLegal_of_disabled (State.callTo_iff1 _ _ _) (State.callTo_eiShadow _ _ _)
  · exact State.interruptsLegal_of_disabled (State.callTo_iff1 _ _ _)
      ((State.callTo_eiShadow _ _ _).trans (State.eiShadow_acknowledgeInt hint))
  · exact State.interruptsLegal_enterMode2 rfl (State.eiShadow_acknowledgeInt hint)
  · exact hlegal
  · have fetched := State.frame_fetched hruns
    have hshadow := s.eiShadow_fetched
    have hiff1 : s.atFetch.fetch.2.iff1 = s.iff1 := fetched .iff1 (by simp)
    have hiff2 : s.atFetch.fetch.2.iff2 = s.iff2 := fetched .iff2 (by simp)
    have hhalted : s.atFetch.fetch.2.halted = s.halted := fetched .halted (by simp)
    obtain ⟨-, -, -, hrunning⟩ := hruns
    refine exec_keepsInterruptsLegal hexec ⟨?_, by simp [hshadow]⟩ hshadow (hhalted.trans hrunning)
    rw [hiff1, hiff2]
    exact hlegal.1

end Sys2Proof.Machine
end

section
/-!
PROOF of O53 and O54: BIT, SET and RES (R330 to R338).

Each form gets its operand as a rotate does (`Source.after`, `Place.update`). The mask of a bit has that bit alone set,
so that the bits of the result are read off one by one.
-/

namespace Sys2Proof.Machine

/-! ## BIT (R330 to R333) -/

/-- All six flags after BIT; S and P/V are free values. -/
theorem State.flags_testBit (b : Nat) (v : Byte) (s : State) :
    (s.testBit b v).flags =
      { s := s.anyBit.1, z := !v.getLsbD b, h := true, pv := s.anyBit.2.anyBit.1, n := false, c := s.flags.c } := by
  rw [State.testBit, State.flags_writeFlags]

theorem Place.exec_bitInstr (m : Place) (b : Nat) (s : State) :
    exec (bitInstr b m) s = .next (((m.source.after s).testBit b (m.source.value s)).advance m.cbLength) := by
  cases m <;> rfl

/-- Settles O53: the operand is read, the flags are written, and PC moves on. -/
theorem testBit : Obligations.TestBit := by
  unfold Obligations.TestBit
  intro b m s
  have hread : changesOnly (.f :: .draws :: m.source.touches) s (m.source.after s) :=
    (m.source.frame_after s).mono fun p hp => by simp [hp]
  have htest := (m.source.after s).frame_testBit b (m.source.value s)
  have hcarry : (m.source.after s).flags.c = s.flags.c := by rw [Source.after_flags]
  refine ⟨_, m.exec_bitInstr b s, ?_⟩
  rw [State.advance_flags, State.flags_testBit]
  refine ⟨rfl, rfl, rfl, hcarry, ?_, ?_⟩
  · exact (htest .trace (by simp)).trans (m.source.trace_after s)
  · refine ((hread.andThen htest (by simp)).advance _).mono fun p hp => ?_
    simp only [List.mem_cons] at hp ⊢
    tauto

/-! ## SET and RES (R334 to R338) -/

theorem getLsbD_bitMask {k : Nat} (hk : k < 8) (b : Nat) : (bitMask b).getLsbD k = decide (k = b) := by
  rw [bitMask, BitVec.getLsbD_ofNat, Nat.testBit_two_pow, decide_eq_true hk, Bool.true_and]
  simp only [eq_comm]

theorem getLsbD_setBitOf {k : Nat} (hk : k < 8) (b : Nat) (v : Byte) :
    (setBitOf b v).getLsbD k = if k = b then true else v.getLsbD k := by
  rw [setBitOf, BitVec.getLsbD_or, getLsbD_bitMask hk]
  by_cases h : k = b <;> simp [h]

theorem getLsbD_clearBitOf {k : Nat} (hk : k < 8) (b : Nat) (v : Byte) :
    (clearBitOf b v).getLsbD k = if k = b then false else v.getLsbD k := by
  rw [clearBitOf, BitVec.getLsbD_and, BitVec.getLsbD_not, getLsbD_bitMask hk]
  by_cases h : k = b <;> simp [h, hk]

/-- The result of an instruction that writes bit `b` of a place, and no flag. -/
def WritesBit (b : Nat) (m : Place) (bit : Bool) (s : State) (x : Result) : Prop :=
  ∃ t res, x = .next t ∧ m.holds res s t ∧
    (∀ k < 8, (res : Byte).getLsbD k = if k = b then bit else (m.source.value s).getLsbD k) ∧
    t.trace = s.trace ++ m.events res s ∧ changesOnly (.pc :: m.target s) s t

/-- An operation that changes only the byte, on a place, and then the move of PC. -/
theorem writesBit_update {b : Nat} {bit : Bool} {op : Byte → State → Byte × State}
    (hop : ∀ v t, changesOnly [] t (op v t).2)
    (hbits : ∀ v t, ∀ k < 8, (op v t).1.getLsbD k = if k = b then bit else v.getLsbD k)
    (m : Place) (s : State) (n : Word) : WritesBit b m bit s (.next ((m.update op s).advance n)) :=
  ⟨_, _, rfl, m.holds_advance s (m.holds_update hop (List.nil_subset _) s) n, hbits _ _,
    m.trace_update hop (List.nil_subset _) s, (m.frame_update hop s).advance n⟩

theorem Place.exec_setInstr (m : Place) (b : Nat) (s : State) :
    exec (setInstr b m) s = .next ((m.update (setBitByte b) s).advance m.cbLength) := by
  cases m <;> rfl

theorem Place.exec_resInstr (m : Place) (b : Nat) (s : State) :
    exec (resInstr b m) s = .next ((m.update (resBitByte b) s).advance m.cbLength) := by
  cases m <;> rfl

/-- Settles O54: SET and RES write their own bit at the operand's place. -/
theorem setAndResetBit : Obligations.SetAndResetBit := by
  unfold Obligations.SetAndResetBit
  intro b m s
  change ∀ p : Instr × Bool, p ∈ _ → WritesBit b m p.2 s (exec p.1 s)
  simp only [List.forall_mem_cons, m.exec_setInstr, m.exec_resInstr]
  exact ⟨writesBit_update (fun v t => frame_setBitByte t b v) (fun v _ _ hk => getLsbD_setBitOf hk b v) m s _,
    writesBit_update (fun v t => frame_resBitByte t b v) (fun v _ _ hk => getLsbD_clearBitOf hk b v) m s _, by simp⟩

end Sys2Proof.Machine
end

section
/-!
PROOF of O55, O56 and O57: jumps, calls and returns (R350 to R368).

A jump writes PC, a call pushes the address behind it and writes PC, a return pops PC. What each of the three does is
said once; a form whose condition does not hold is `advance`.
-/

namespace Sys2Proof.Machine

/-! ## Jumps (R351 to R361) -/

/-- The result of a jump: to `target` where it is taken, else past its `k` bytes. -/
def JumpsTo (taken : Bool) (target k : Word) (s : State) (x : Result) : Prop :=
  ∃ t, x = .next t ∧ t.pc = (if taken = true then target else s.pc + k) ∧ changesOnly [.pc] s t

theorem jumpsTo_jumpTo (target k : Word) (s : State) : JumpsTo true target k s (.next (s.jumpTo target)) :=
  ⟨_, rfl, rfl, s.frame_jumpTo target⟩

theorem jumpsTo_advance (target k : Word) (s : State) : JumpsTo false target k s (.next (s.advance k)) :=
  ⟨_, rfl, rfl, s.frame_advance k⟩

theorem exec_jpCond_jumpsTo (cc : Cond) (nn : Word) (s : State) :
    JumpsTo (conditionMet cc s) nn 3 s (exec (.jpCond cc nn) s) := by
  show JumpsTo _ nn 3 s (execJpCond cc nn s)
  rw [execJpCond, State.cond_eq_conditionMet]
  cases conditionMet cc s with
  | true => exact jumpsTo_jumpTo nn 3 s
  | false => exact jumpsTo_advance nn 3 s

theorem jumpsTo_jumpRelative (taken : Bool) (e : Byte) (s : State) :
    JumpsTo taken (s.pc + 2 + e.signExtend 16) 2 s (.next (s.jumpRelative taken e)) := by
  cases taken with
  | true => exact jumpsTo_jumpTo _ 2 s
  | false => exact jumpsTo_advance _ 2 s

/-- A relative jump on a condition: the model reads the flag, the statement the bit of F. -/
theorem jumpsTo_jumpRelative_cond (cc : Cond) (e : Byte) (s : State) :
    JumpsTo (conditionMet cc s) (s.pc + 2 + e.signExtend 16) 2 s (.next (s.jumpRelative (s.cond cc) e)) := by
  rw [State.cond_eq_conditionMet]
  exact jumpsTo_jumpRelative _ e s

/-- Settles O55: each form by its own target and condition; DJNZ is a relative jump after the write of B. -/
theorem jumps : Obligations.Jumps := by
  unfold Obligations.Jumps
  intro cc nn e s
  constructor
  · change ∀ x : Instr × Bool × Word × Word, x ∈ _ → JumpsTo x.2.1 x.2.2.1 x.2.2.2 s (exec x.1 s)
    simp only [List.forall_mem_cons]
    exact ⟨jumpsTo_jumpTo nn 3 s, exec_jpCond_jumpsTo cc nn s, jumpsTo_jumpRelative true e s,
      jumpsTo_jumpRelative_cond .c e s, jumpsTo_jumpRelative_cond .nc e s, jumpsTo_jumpRelative_cond .z e s,
      jumpsTo_jumpRelative_cond .nz e s, jumpsTo_jumpTo s.hl 1 s, jumpsTo_jumpTo s.ix 2 s, jumpsTo_jumpTo s.iy 2 s,
      by simp⟩
  · obtain ⟨t, hexec, hpc, hframe⟩ := jumpsTo_jumpRelative (s.b - 1 != 0) e (s.setB (s.b - 1))
    refine ⟨t, hexec, hframe (.reg .b) (by simp), ?_, ?_⟩
    · simpa using hpc
    · exact ((s.frame_setB _).mono (by simp)).andThen hframe (by simp)

/-! ## Calls (R362, R363, R368) -/

/-- From `s` to `t` the word `v` has been pushed, and beside SP, the two bytes and the trace only the pieces `ps` have
changed. -/
def Pushes (ps : List Piece) (v : Word) (s t : State) : Prop :=
  t.sp = s.sp - 2 ∧ landed (s.sp - 1) (hiByte v) s t ∧ landed (s.sp - 2) (loByte v) s t ∧
    t.trace = s.trace ++ writeEvents (s.sp - 1) (hiByte v) s ++ writeEvents (s.sp - 2) (loByte v) s ∧
    changesOnly (ps ++ [.sp, .trace, .byte (s.sp - 1), .byte (s.sp - 2)]) s t

theorem pushes_push16 (v : Word) (s : State) : Pushes [] v s (s.push16 v) := by
  have hne : s.sp - 1 ≠ s.sp - 2 := by bv_omega
  exact ⟨s.push16_sp v, s.landed_write8_write8_first hne _ _, s.landed_write8_write8_second hne _ _,
    s.trace_push16 v, (s.frame_push16 v).mono (by simp)⟩

theorem Pushes.jumpTo {ps : List Piece} {v : Word} {s t : State} (h : Pushes ps v s t) (target : Word) :
    Pushes (.pc :: ps) v s (t.jumpTo target) := by
  obtain ⟨hsp, hhigh, hlow, htrace, hframe⟩ := h
  exact ⟨hsp, hhigh, hlow, htrace, (hframe.mono (List.subset_cons_self _ _)).andThen (t.frame_jumpTo target) (by simp)⟩

/-- `t` is the state after a call from `s`: `returnTo` is pushed and PC is `target`. -/
def CallsTo (target returnTo : Word) (s t : State) : Prop := t.pc = target ∧ Pushes [.pc] returnTo s t

theorem callsTo_callTo (target returnTo : Word) (s : State) : CallsTo target returnTo s (s.callTo target returnTo) :=
  ⟨rfl, (pushes_push16 returnTo s).jumpTo target⟩

theorem exec_callCond (cc : Cond) (nn : Word) (s : State) :
    exec (.callCond cc nn) s = .next (if conditionMet cc s = true then s.callTo nn (s.pc + 3) else s.advance 3) := by
  rw [← State.cond_eq_conditionMet]
  rfl

/-- Settles O56: three forms that call, the last where its condition holds. -/
theorem calls : Obligations.Calls := by
  unfold Obligations.Calls
  intro cc nn p s
  have hrst : BitVec.ofNat 16 p.toNat = p.setWidth 16 := BitVec.ofNat_toNat ..
  refine ⟨?_, fun hmet => ⟨_, by rw [exec_callCond, if_neg (by simp [hmet])], rfl, s.frame_advance 3⟩⟩
  change ∀ x : Instr × Word × Word, x ∈ _ → ∃ t, exec x.1 s = .next t ∧ CallsTo x.2.1 x.2.2 s t
  simp only [List.forall_mem_append, List.forall_mem_cons, hrst]
  refine ⟨⟨⟨_, rfl, callsTo_callTo _ _ s⟩, ⟨_, rfl, callsTo_callTo _ _ s⟩, by simp⟩, fun x hx => ?_⟩
  obtain ⟨hmet, hx⟩ := List.mem_ite_nil_right.mp hx
  cases List.mem_singleton.mp hx
  exact ⟨_, by rw [exec_callCond, if_pos hmet], callsTo_callTo _ _ s⟩

/-! ## Returns (R364 to R367, R430) -/

/-- `t` is the state after a return from `s` that leaves IFF1 as `iff1`: PC is the word popped. -/
def ReturnsFrom (iff1 : Bool) (s t : State) : Prop :=
  t.pc = wordReadAt s.sp s ∧ t.sp = s.sp + 2 ∧ t.iff1 = iff1 ∧ t.trace = s.trace ++ wordReadEvents s.sp s ∧
    (s.readable s.sp → s.readable (s.sp + 1) →
      t.pc = joinBytes (s.byteAt (s.sp + 1)) (s.byteAt s.sp) ∧ t.trace = s.trace) ∧
    changesOnly [.pc, .sp, .iff1, .trace, .draws] s t

theorem returnsFrom_returnPop (s : State) : ReturnsFrom s.iff1 s s.returnPop :=
  ⟨rfl, rfl, s.returnPop_iff1, s.trace_pop16, wordRead_of_readable rfl s.trace_pop16,
    s.frame_returnPop.mono (by simp)⟩

theorem returnsFrom_returnFromNmi (s : State) : ReturnsFrom s.iff2 s s.returnFromNmi :=
  ⟨rfl, rfl, s.returnPop_iff2, s.trace_pop16, wordRead_of_readable rfl s.trace_pop16,
    s.frame_returnFromNmi.mono (by simp)⟩

theorem exec_retCond (cc : Cond) (s : State) :
    exec (.retCond cc) s = .next (if conditionMet cc s = true then s.returnPop else s.advance 1) := by
  rw [← State.cond_eq_conditionMet]
  rfl

/-- Settles O57: RETN alone writes IFF1; RET cc returns where its condition holds. -/
theorem returns : Obligations.Returns := by
  unfold Obligations.Returns
  intro cc s
  refine ⟨?_, fun hmet => ⟨_, by rw [exec_retCond, if_neg (by simp [hmet])], rfl, s.frame_advance 1⟩⟩
  change ∀ x : Instr × Bool, x ∈ _ → ∃ t, exec x.1 s = .next t ∧ ReturnsFrom x.2 s t
  simp only [List.forall_mem_append, List.forall_mem_cons]
  refine ⟨⟨⟨_, rfl, returnsFrom_returnPop s⟩, ⟨_, rfl, returnsFrom_returnPop s⟩,
    ⟨_, rfl, returnsFrom_returnFromNmi s⟩, by simp⟩, fun x hx => ?_⟩
  obtain ⟨hmet, hx⟩ := List.mem_ite_nil_right.mp hx
  cases List.mem_singleton.mp hx
  exact ⟨_, by rw [exec_retCond, if_pos hmet], returnsFrom_returnPop s⟩

end Sys2Proof.Machine
end

section
/-!
PROOF of O58 and O59: input and output (R390 to R403).

A port read answers `State.portValue`, the environment's answer where the inputs carry one. The block forms are a block
input or a block output and then the move of PC; as for the block transfers, a form that does not repeat is one that
repeats while `false`.
-/

namespace Sys2Proof.Machine

theorem State.portValue_of_answer {s : State} {w : Byte} (h : s.now.portByte = some w) (port : Word) :
    s.portValue port = w := by
  rw [State.portValue, h, Option.getD_some]

/-! ## One byte (R391, R392, R397, R398) -/

/-- The result of `IN A,(n)`. -/
def InputsA (n : Byte) (s : State) (x : Result) : Prop :=
  ∃ t v, x = .next t ∧ t.a = v ∧ t.trace = s.trace ++ [.portRead (joinBytes s.a n) v] ∧
    (∀ w, s.now.portByte = some w → v = w) ∧ changesOnly [.reg .a, .pc, .trace] s t

theorem exec_inAImm_inputsA (n : Byte) (s : State) : InputsA n s (exec (.inAImm n) s) := by
  have hframe := ((s.frame_portIn (joinBytes s.a n)).mono (qs := [.reg .a, .trace]) (by simp)).andThen
    (State.frame_setA _ (s.portValue (joinBytes s.a n))) (by simp)
  exact ⟨_, _, rfl, rfl, rfl, fun w hw => s.portValue_of_answer hw _, (hframe.advance 2).mono (by simp)⟩

/-- The result of `IN r,(C)`. -/
def InputsReg (r : Reg8) (s : State) (x : Result) : Prop :=
  ∃ t v, x = .next t ∧ t.reg8 r = v ∧ t.trace = s.trace ++ [.portRead (joinBytes s.b s.c) v] ∧
    (∀ w, s.now.portByte = some w → v = w) ∧ parityOutcome v t.flags ∧ t.flags.h = false ∧
    t.flags.c = s.flags.c ∧ changesOnly [.reg r, .f, .pc, .trace, .draws] s t

/-- `IN r,(C)` before PC moves (R392). -/
def State.inputReg (r : Reg8) (s : State) : State :=
  ((s.portIn s.bc).2.setReg8 r (s.portValue s.bc)).writeFlags (byteFlags (s.portValue s.bc) s.flags.c)

theorem State.frame_inputReg (r : Reg8) (s : State) : changesOnly [.reg r, .f, .trace, .draws] s (s.inputReg r) :=
  (((s.frame_portIn s.bc).mono (by simp)).andThen (State.frame_setReg8 _ r _) (by simp)).andThen
    (State.frame_writeFlags _ _) (by simp)

theorem exec_inRegC_inputsReg (r : Reg8) (s : State) : InputsReg r s (exec (.inRegC r) s) := by
  have hflags : (s.inputReg r).flags = byteFlags (s.portValue s.bc) s.flags.c := State.flags_writeFlags _ _
  have hreg : ((s.inputReg r).advance 2).reg8 r = s.portValue s.bc := by simp [State.inputReg]
  have htrace : (s.inputReg r).trace = s.trace ++ [.portRead s.bc (s.portValue s.bc)] := by simp [State.inputReg]
  refine ⟨(s.inputReg r).advance 2, _, rfl, hreg, htrace, fun w hw => s.portValue_of_answer hw _, ?_⟩
  rw [State.advance_flags, hflags]
  exact ⟨parityOutcome_byteFlags _ _, rfl, rfl, ((s.frame_inputReg r).advance 2).mono (by simp)⟩

/-- Settles O58: each form is one access to its port. -/
theorem singleInputOutput : Obligations.SingleInputOutput := by
  unfold Obligations.SingleInputOutput
  intro n r s
  exact ⟨exec_inAImm_inputsA n s, exec_inRegC_inputsReg r s,
    ⟨_, rfl, rfl, (s.frame_portOut _ _).advance 2⟩, ⟨_, rfl, rfl, (s.frame_portOut _ _).advance 2⟩⟩

/-! ## The flags of the block forms (R403) -/

/-- All six flags after a block input or output; S, H and P/V are free values. -/
theorem State.flags_blockIoFlags (s : State) :
    s.blockIoFlags.flags =
      { s := s.anyBit.1, z := s.b == 0, h := s.anyBit.2.anyBit.2.anyBit.1, pv := s.anyBit.2.anyBit.1, n := true,
        c := s.flags.c } := by
  rw [State.blockIoFlags, State.flags_writeFlags]

section
variable (s : State)

@[simp] theorem State.blockIoFlags_b : s.blockIoFlags.b = s.b := s.frame_blockIoFlags (.reg .b) (by simp)

@[simp] theorem State.blockIoFlags_hl : s.blockIoFlags.hl = s.hl :=
  congrArg₂ joinBytes (s.frame_blockIoFlags (.reg .h) (by simp)) (s.frame_blockIoFlags (.reg .l) (by simp))

@[simp] theorem State.blockIoFlags_pc : s.blockIoFlags.pc = s.pc := s.frame_blockIoFlags .pc (by simp)

@[simp] theorem State.blockIoFlags_trace : s.blockIoFlags.trace = s.trace := s.frame_blockIoFlags .trace (by simp)

@[simp] theorem State.blockIoFlags_byteAt (a : Word) : s.blockIoFlags.byteAt a = s.byteAt a :=
  s.frame_blockIoFlags (.byte a) (by simp)

end

/-- What the input and the output of a block have in common: B falls by one, HL moves by `delta`, Z, N and C, and PC,
which stays where the form `repeats` and B is not 0 (R204, R403). -/
def CountsDown (delta : Word) (repeats : Bool) (s t : State) : Prop :=
  t.b = s.b - 1 ∧ t.hl = s.hl + delta ∧
    (t.flags.z = true ↔ t.b = 0) ∧ t.flags.n = true ∧ t.flags.c = s.flags.c ∧
    t.pc = (if repeats = true ∧ t.b ≠ 0 then s.pc else s.pc + 2)

/-- The end of a block input or output, where `u` has made the access and lowered B. -/
theorem countsDown_finish {s u : State} (hb : u.b = s.b - 1) (hflags : u.flags = s.flags) (hpc : u.pc = s.pc)
    (delta : Word) (repeats : Bool) :
    CountsDown delta repeats s
      ((u.setHL (s.hl + delta)).blockIoFlags.repeatWhile
        (repeats && (u.setHL (s.hl + delta)).blockIoFlags.b != 0)) := by
  simp [CountsDown, State.flags_blockIoFlags, hb, hflags, hpc]

/-! ## Block input (R393 to R396) -/

section
variable (s : State) (delta : Word)

theorem State.trace_blockIn :
    (s.blockIn delta).trace =
      s.trace ++ [.portRead s.bc (s.portValue s.bc)] ++ writeEvents s.hl (s.portValue s.bc) s := by
  have h : (s.blockIn delta).trace = ((s.portIn s.bc).2.write8 s.hl (s.portValue s.bc)).trace := by
    simp [State.blockIn, State.portIn]
  rw [h, State.trace_write8, State.portIn_trace]
  rfl

theorem State.landed_blockIn : landed s.hl (s.portValue s.bc) s (s.blockIn delta) := by
  have h : (s.blockIn delta).byteAt s.hl = ((s.portIn s.bc).2.write8 s.hl (s.portValue s.bc)).byteAt s.hl := by
    simp [State.blockIn, State.portIn]
  rw [landed, h]
  exact (s.portIn s.bc).2.landed_write8 s.hl (s.portValue s.bc)

end

/-- The result of a block input. -/
def InputsByte (delta : Word) (repeats : Bool) (s : State) (x : Result) : Prop :=
  ∃ t v, x = .next t ∧ landed s.hl v s t ∧ (∀ w, s.now.portByte = some w → v = w) ∧
    t.trace = s.trace ++ [.portRead (joinBytes s.b s.c) v] ++ writeEvents s.hl v s ∧
    t.b = s.b - 1 ∧ t.hl = s.hl + delta ∧
    (t.flags.z = true ↔ t.b = 0) ∧ t.flags.n = true ∧ t.flags.c = s.flags.c ∧
    t.pc = (if repeats = true ∧ t.b ≠ 0 then s.pc else s.pc + 2) ∧
    changesOnly [.byte s.hl, .reg .b, .reg .h, .reg .l, .f, .pc, .trace, .draws] s t

theorem inputsByte_blockIn (delta : Word) (repeats : Bool) (s : State) :
    InputsByte delta repeats s
      (.next ((s.blockIn delta).repeatWhile (repeats && (s.blockIn delta).b != 0))) := by
  have hend : CountsDown delta repeats s
      ((s.blockIn delta).repeatWhile (repeats && (s.blockIn delta).b != 0)) :=
    countsDown_finish (u := ((s.portIn s.bc).2.write8 s.hl (s.portValue s.bc)).setB (s.b - 1)) rfl (by simp)
      (by simp) delta repeats
  obtain ⟨hb, hhl, hz, hn, hc, hpc⟩ := hend
  refine ⟨_, s.portValue s.bc, rfl, ?_, fun w hw => s.portValue_of_answer hw _, ?_, hb, hhl, hz, hn, hc, hpc,
    ((s.frame_blockIn delta).repeatWhile _).mono (by simp)⟩
  · rw [landed, State.repeatWhile_byteAt]
    exact s.landed_blockIn delta
  · rw [State.repeatWhile_trace]
    exact s.trace_blockIn delta

/-- The block inputs, each with its move of HL and whether it repeats. -/
def blockInputs : List (Instr × Word × Bool) :=
  [(.ini, 1, false), (.inir, 1, true), (.ind, -1, false), (.indr, -1, true)]

theorem exec_inputsByte (s : State) : ∀ x ∈ blockInputs, InputsByte x.2.1 x.2.2 s (exec x.1 s) := by
  simp only [blockInputs, List.forall_mem_cons]
  exact ⟨inputsByte_blockIn 1 false s, inputsByte_blockIn 1 true s, inputsByte_blockIn (-1) false s,
    inputsByte_blockIn (-1) true s, by simp⟩

/-! ## Block output (R399 to R402) -/

theorem State.trace_blockOut (s : State) (delta : Word) :
    (s.blockOut delta).trace =
      s.trace ++ readEvents s.hl s ++ [.portWrite (joinBytes (s.b - 1) s.c) (s.read8 s.hl).1] := by
  simp [State.blockOut, State.trace_read8, State.bc]

/-- The result of a block output. -/
def OutputsByte (delta : Word) (repeats : Bool) (s : State) (x : Result) : Prop :=
  ∃ t, x = .next t ∧
    t.trace = s.trace ++ readEvents s.hl s ++ [.portWrite (joinBytes (s.b - 1) s.c) (s.read8 s.hl).1] ∧
    t.b = s.b - 1 ∧ t.hl = s.hl + delta ∧
    (t.flags.z = true ↔ t.b = 0) ∧ t.flags.n = true ∧ t.flags.c = s.flags.c ∧
    t.pc = (if repeats = true ∧ t.b ≠ 0 then s.pc else s.pc + 2) ∧
    changesOnly [.reg .b, .reg .h, .reg .l, .f, .pc, .trace, .draws] s t

theorem outputsByte_blockOut (delta : Word) (repeats : Bool) (s : State) :
    OutputsByte delta repeats s
      (.next ((s.blockOut delta).repeatWhile (repeats && (s.blockOut delta).b != 0))) := by
  have hend : CountsDown delta repeats s
      ((s.blockOut delta).repeatWhile (repeats && (s.blockOut delta).b != 0)) :=
    countsDown_finish
      (u := ((s.read8 s.hl).2.setB (s.b - 1)).portOut ((s.read8 s.hl).2.setB (s.b - 1)).bc (s.read8 s.hl).1)
      rfl (by simp) (by simp) delta repeats
  obtain ⟨hb, hhl, hz, hn, hc, hpc⟩ := hend
  refine ⟨_, rfl, ?_, hb, hhl, hz, hn, hc, hpc, ((s.frame_blockOut delta).repeatWhile _).mono (by simp)⟩
  rw [State.repeatWhile_trace]
  exact s.trace_blockOut delta

/-- Settles O59: the block inputs, and the block outputs with the same two moves of HL. -/
theorem blockInputOutput : Obligations.BlockInputOutput := by
  unfold Obligations.BlockInputOutput
  intro s
  refine ⟨exec_inputsByte s, ?_⟩
  change ∀ x : Instr × Word × Bool, x ∈ _ → OutputsByte x.2.1 x.2.2 s (exec x.1 s)
  simp only [List.forall_mem_cons]
  exact ⟨outputsByte_blockOut 1 false s, outputsByte_blockOut 1 true s, outputsByte_blockOut (-1) false s,
    outputsByte_blockOut (-1) true s, by simp⟩

end Sys2Proof.Machine
end

section
/-!
PROOF of O6, O9, O14 and O15: the step that runs an instruction, the reset line, the halted CPU and the EI shadow.

At each kind of boundary the step is computed (`step_of_fetch`, `step_of_reset`, `step_of_staysHalted`); what is left is
what sampling and fetching leave unchanged.
-/

namespace Sys2Proof.Machine

/-! ## Running an instruction (R422) -/

/-- The fetch works on the sampled inputs and leaves them. -/
theorem State.now_inputs_fetched (s : State) :
    s.atFetch.fetch.2.now = s.nextInputs ∧ s.atFetch.fetch.2.inputs = s.inputs.tail :=
  ⟨s.atFetch.frame_fetch .now (by simp), s.atFetch.frame_fetch .inputs (by simp)⟩

/-- Settles O6: the frame of the fetch, and the step at an accepted and at a reserved encoding. -/
theorem stepRunsDecodedInstruction : Obligations.StepRunsDecodedInstruction := by
  unfold Obligations.StepRunsDecodedInstruction
  intro s hruns
  obtain ⟨hnow, hinputs⟩ := s.now_inputs_fetched
  refine ⟨State.frame_fetched hruns, s.eiShadow_fetched, hnow, hinputs, fun i rest hdec => ?_,
    fun why hdec => step_of_reject hruns hdec⟩
  obtain ⟨hwf, -⟩ := encodeOfDecode _ rest i hdec
  exact ⟨hwf, step_of_fetch hruns hdec⟩

/-! ## The reset line (R471) -/

/-- Settles O9: each register and each untouched part is read off the state that the reset line leaves. -/
theorem resetLine : Obligations.ResetLine := by
  unfold Obligations.ResetLine
  intro s hreset
  exact ⟨_, step_of_reset hreset, rfl, rfl, rfl, rfl, rfl, rfl, rfl, rfl, rfl, fun _ => rfl, rfl, rfl, rfl, rfl⟩

/-! ## The halted CPU (R429, R479) -/

/-- Where no NMI is pending or arrives, sampling changes only the inputs. -/
theorem State.frame_sample_of_no_nmi {s : State} (h : s.nmiDue = false) :
    changesOnly [.now, .inputs] s s.sample := by
  have hpending : s.nmiPending = false := (Bool.or_eq_false_iff.mp h).1
  intro p hp
  by_cases hnmi : p = .nmiPending
  · subst hnmi
    exact h.trans hpending.symm
  · refine s.frame_sample p ?_
    simp only [List.mem_cons] at hp ⊢
    tauto

/-- Where nothing can come any more, the next record asserts nothing but an INT that is masked. -/
theorem State.undisturbed.next {s : State} (h : s.undisturbed) :
    s.nextInputs.reset = false ∧ s.nextInputs.nmiEdge = false ∧ (s.nextInputs.intLine = true → s.iff1 = false) := by
  obtain ⟨-, hinputs⟩ := h
  rw [State.nextInputs]
  cases hlist : s.inputs with
  | nil => exact ⟨rfl, rfl, nofun⟩
  | cons x rest => exact hinputs x (by simp [hlist])

theorem State.runEnded.staysHalted {s : State} (h : s.runEnded) : s.staysHalted := by
  obtain ⟨hhalted, hquiet⟩ := h
  obtain ⟨hreset, hedge, hmasked⟩ := hquiet.next
  obtain ⟨hpending, -⟩ := hquiet
  refine ⟨hreset, by simp [State.nmiDue, hpending, hedge], ?_, hhalted⟩
  cases hint : s.nextInputs.intLine with
  | false => simp [State.intDue, hint]
  | true => simp [State.intDue, hmasked hint]

/-- The tick leaves the end of a run: the records still to come are among those before. -/
theorem State.runEnded.tick {s : State} (h : s.runEnded) : (s.sample.countFetches 1).runEnded := by
  obtain ⟨-, hnmi, -, -⟩ := h.staysHalted
  obtain ⟨hhalted, -, hinputs⟩ := h
  exact ⟨hhalted, hnmi, fun x hx => hinputs x (List.mem_of_mem_tail hx)⟩

/-- Settles O14: the step is the tick, and the tick keeps the end of a run. -/
theorem haltedCpu : Obligations.HaltedCpu := by
  unfold Obligations.HaltedCpu
  intro s
  refine ⟨fun h => ?_, fun h => ⟨h.staysHalted, _, step_of_staysHalted h.staysHalted, h.tick⟩⟩
  obtain ⟨-, hnmi, -, -⟩ := id h
  exact ⟨_, step_of_staysHalted h, s.sample.refreshed_countFetches 1, rfl, rfl,
    ((State.frame_sample_of_no_nmi hnmi).mono (by simp)).andThen (State.frame_countFetches _ 1) (by simp)⟩

/-! ## The EI shadow (R268, R474) -/

/-- Under the EI shadow a running CPU executes the next instruction whatever the INT line does. -/
theorem State.runsInstruction_of_eiShadow {t : State} (hshadow : t.eiShadow = true) (hhalted : t.halted = false)
    (hreset : t.nextInputs.reset = false) (hnmi : t.nmiDue = false) : t.runsInstruction :=
  ⟨hreset, hnmi, by simp [State.intDue, hshadow], hhalted⟩

/-- Settles O15: the fetch has cleared the shadow, and EI alone writes it. -/
theorem eiShadow : Obligations.EiShadow := by
  unfold Obligations.EiShadow
  intro s t i rest hruns hdec ht
  have hexec : exec i s.atFetch.fetch.2 = .next t := (step_of_fetch hruns hdec).symm.trans ht
  obtain ⟨-, -, -, hrunning⟩ := id hruns
  have hhalted : s.atFetch.fetch.2.halted = false := (State.frame_fetched hruns .halted (by simp)).trans hrunning
  constructor
  · rintro rfl
    cases hexec
    exact ⟨rfl, rfl, rfl, State.runsInstruction_of_eiShadow rfl hhalted⟩
  · intro hi
    have hkept := (exec_maintains i _ t hexec).control .eiShadow (by simpa [Piece.keptBy] using hi)
    exact Eq.trans hkept s.eiShadow_fetched

end Sys2Proof.Machine
end

section
/-!
PROOF of O10 to O13: the acceptance of interrupts (R424 to R428).

Before it enters a handler an acceptance counts in R and clears its flip-flops (`State.acknowledgeNmi`,
`State.acknowledgeInt`), which leaves PC, SP, memory and the trace to the push that follows (`Pushes.after`). In mode 2
the target is read after the push; what a read gives depends on memory, the map, the trace and the count of free values
alone (`ReadsAlike`).
-/

namespace Sys2Proof.Machine

/-! ## Before the handler is entered -/

section
variable (s : State)

theorem State.frame_acknowledgeNmi :
    changesOnly [.r, .iff1, .halted, .eiShadow, .nmiPending] s s.acknowledgeNmi := by
  intro p hp
  cases p with
  | r | iff1 | halted | eiShadow | nmiPending => simp at hp
  | reg q => cases q <;> rfl
  | _ => rfl

theorem State.frame_acknowledgeInt : changesOnly [.r, .iff1, .iff2, .halted] s s.acknowledgeInt := by
  intro p hp
  cases p with
  | r | iff1 | iff2 | halted => simp at hp
  | reg q => cases q <;> rfl
  | _ => rfl

end

/-- The pieces that an acceptance writes before it pushes. -/
def acceptancePieces : List Piece := [.now, .inputs, .nmiPending, .r, .iff1, .iff2, .halted, .eiShadow]

/-- A push that follows what an acceptance writes before it is a push from the state before both. -/
theorem Pushes.after {ps qs : List Piece} {v : Word} {s u t : State} (h : Pushes qs v u t) (hf : changesOnly ps s u)
    (hps : ps ⊆ acceptancePieces) : Pushes (ps ++ qs) v s t := by
  have hkept := hf.mono hps
  have hsp : u.sp = s.sp := hkept .sp (by simp [acceptancePieces])
  have htrace : u.trace = s.trace := hkept .trace (by simp [acceptancePieces])
  have hbyte : ∀ a, u.byteAt a = s.byteAt a := fun a => hkept (.byte a) (by simp [acceptancePieces])
  have hkind : ∀ a, u.kindAt a = s.kindAt a := fun a =>
    State.kindAt_of_memMap a (hkept .memMap (by simp [acceptancePieces]))
  simp only [Pushes, landed, writeEvents, hsp, htrace, hbyte, hkind] at h ⊢
  obtain ⟨htsp, hhigh, hlow, httrace, hframe⟩ := h
  exact ⟨htsp, hhigh, hlow, httrace, (hf.mono fun p hp => by simp [hp]).andThen hframe fun p hp => by
    rw [List.append_assoc]
    exact List.mem_append_right ps hp⟩

theorem refreshed.of_r {n : Nat} {s t u : State} (h : refreshed n s t) (hr : u.r = t.r) : refreshed n s u := by
  rwa [refreshed, hr]

/-! ## The non-maskable interrupt (R424) -/

theorem State.frame_acknowledgeNmi_sample (s : State) :
    changesOnly [.now, .inputs, .nmiPending, .r, .iff1, .halted, .eiShadow] s s.sample.acknowledgeNmi :=
  (s.frame_sample.mono (by simp)).andThen (State.frame_acknowledgeNmi _) (by simp)

/-- Settles O10: the push is that of PC, the call goes to 0066h, and what the call leaves alone is as acknowledged. -/
theorem nmiAcceptance : Obligations.NmiAcceptance := by
  unfold Obligations.NmiAcceptance
  intro s hnmi
  have hstep := step_of_takesNmi hnmi
  rw [State.acceptNmi_eq] at hstep
  have hcall := s.sample.acknowledgeNmi.frame_callTo 0x0066 s.pc
  obtain ⟨hsp, hhigh, hlow, htrace, hframe⟩ := ((pushes_push16 s.pc s.sample.acknowledgeNmi).jumpTo 0x0066).after
    s.frame_acknowledgeNmi_sample (by simp [acceptancePieces])
  refine ⟨_, hstep, rfl, hsp, hcall .iff1 (by simp), hcall .iff2 (by simp), hcall .halted (by simp),
    hcall .eiShadow (by simp), hcall .nmiPending (by simp),
    (s.sample.refreshed_countFetches 1).of_r (hcall .r (by simp)), hcall .now (by simp), hcall .inputs (by simp), hhigh,
    hlow, htrace, hframe.mono (by simp)⟩


/-! ## The maskable interrupt (R425) -/

theorem State.frame_acknowledgeInt_sample {s : State} (h : s.takesInt) :
    changesOnly [.now, .inputs, .r, .iff1, .iff2, .halted] s s.sample.acknowledgeInt := by
  obtain ⟨-, hnmi, -⟩ := h
  exact ((State.frame_sample_of_no_nmi hnmi).mono (by simp)).andThen (State.frame_acknowledgeInt _) (by simp)

/-- The push of PC that every acceptance begins with, seen from the state before the acceptance. -/
theorem pushes_acknowledgeInt {s : State} (h : s.takesInt) :
    Pushes [.now, .inputs, .r, .iff1, .iff2, .halted] s.pc s (s.sample.acknowledgeInt.push16 s.pc) :=
  (pushes_push16 s.pc s.sample.acknowledgeInt).after (State.frame_acknowledgeInt_sample h) (by simp [acceptancePieces])

/-- The interrupt logic, R and the inputs after a maskable interrupt has been accepted in `s`. -/
def TakenInt (s t : State) : Prop :=
  t.iff1 = false ∧ t.iff2 = false ∧ t.halted = false ∧ refreshed 1 s t ∧ t.now = s.nextInputs ∧
    t.inputs = s.inputs.tail

/-- What follows the acknowledgement leaves those pieces as they are. -/
theorem takenInt_of_frame {ps : List Piece} {s t : State} (h : changesOnly ps s.sample.acknowledgeInt t)
    (hps : [Piece.iff1, .iff2, .halted, .r, .now, .inputs].Disjoint ps) : TakenInt s t :=
  ⟨h .iff1 (hps (by simp)), h .iff2 (hps (by simp)), h .halted (hps (by simp)),
    (s.sample.refreshed_countFetches 1).of_r (h .r (hps (by simp))), h .now (hps (by simp)),
    h .inputs (hps (by simp))⟩

/-- The state after a maskable interrupt has been accepted in `s` and the handler at `target` entered. -/
def EntersHandler (target : Word) (s t : State) : Prop :=
  t.pc = target ∧ t.sp = s.sp - 2 ∧ t.iff1 = false ∧ t.iff2 = false ∧ t.halted = false ∧ refreshed 1 s t ∧
    t.now = s.nextInputs ∧ t.inputs = s.inputs.tail ∧
    landed (s.sp - 1) (hiByte s.pc) s t ∧ landed (s.sp - 2) (loByte s.pc) s t ∧
    t.trace = s.trace ++ writeEvents (s.sp - 1) (hiByte s.pc) s ++ writeEvents (s.sp - 2) (loByte s.pc) s ∧
    changesOnly [.pc, .sp, .iff1, .iff2, .halted, .r, .byte (s.sp - 1), .byte (s.sp - 2), .trace, .now, .inputs] s t

theorem entersHandler_of_takesInt {s : State} (h : s.takesInt) (target : Word) :
    EntersHandler target s (s.sample.acknowledgeInt.enterHandler target) := by
  obtain ⟨hsp, hhigh, hlow, htrace, hframe⟩ := (pushes_acknowledgeInt h).jumpTo target
  obtain ⟨hiff1, hiff2, hhalted, hr, hnow, hinputs⟩ :=
    takenInt_of_frame (s.sample.acknowledgeInt.frame_callTo target s.pc) (by simp)
  exact ⟨rfl, hsp, hiff1, hiff2, hhalted, hr, hnow, hinputs, hhigh, hlow, htrace, hframe.mono (by simp)⟩

/-! ## Mode 0: a restart on the bus (R426) -/

/-- The bytes `11ttt111` are the eight restarts, and each goes to `8 * ttt`. -/
theorem isRstByte_restart :
    ∀ k < 8, isRstByte (BitVec.ofNat 8 (0xC7 + 8 * k)) = true ∧
      rstTarget (BitVec.ofNat 8 (0xC7 + 8 * k)) = BitVec.ofNat 16 (8 * k) := by
  decide

theorem exists_restart_of_isRstByte :
    ∀ {v : Byte}, isRstByte v = true → ∃ k < 8, v = BitVec.ofNat 8 (0xC7 + 8 * k) := by
  decide

theorem State.acceptInt_of_im0 {s : State} (h : s.im = .im0) :
    s.acceptInt =
      if isRstByte s.now.busByte then .next (s.acknowledgeInt.enterHandler (rstTarget s.now.busByte))
      else .refused (.mode0NotRst s.now.busByte) := by
  have him : s.acknowledgeInt.im = .im0 := h
  simp only [State.acceptInt, him]
  rfl

/-- Settles O11: the bus byte is one of the eight restarts, or it is refused. -/
theorem intAcceptanceMode0 : Obligations.IntAcceptanceMode0 := by
  unfold Obligations.IntAcceptanceMode0
  intro s hint him
  have hstep := (step_of_takesInt hint).trans (State.acceptInt_of_im0 (s := s.sample) him)
  have hbus : s.sample.now.busByte = s.nextInputs.busByte := rfl
  rw [hbus] at hstep
  constructor
  · intro k hk hbyte
    obtain ⟨hrst, htarget⟩ := isRstByte_restart k hk
    rw [hbyte, if_pos hrst, htarget] at hstep
    exact ⟨_, hstep, entersHandler_of_takesInt hint _⟩
  · intro hother
    rw [hstep, if_neg]
    intro hrst
    obtain ⟨k, hk, hbyte⟩ := exists_restart_of_isRstByte hrst
    exact hother k hk hbyte

/-! ## Mode 1 (R427) -/

theorem State.acceptInt_of_im1 {s : State} (h : s.im = .im1) :
    s.acceptInt = .next (s.acknowledgeInt.enterHandler 0x0038) := by
  have him : s.acknowledgeInt.im = .im1 := h
  simp only [State.acceptInt, him]

/-- Settles O12: the handler at 0038h, whatever the bus byte is. -/
theorem intAcceptanceMode1 : Obligations.IntAcceptanceMode1 := by
  unfold Obligations.IntAcceptanceMode1
  intro s hint him
  exact ⟨_, (step_of_takesInt hint).trans (State.acceptInt_of_im1 (s := s.sample) him),
    entersHandler_of_takesInt hint 0x0038⟩

/-! ## Mode 2: the table (R428) -/

theorem State.acceptInt_of_im2 {s : State} (h : s.im = .im2) :
    s.acceptInt = .next s.acknowledgeInt.enterMode2 := by
  have him : s.acknowledgeInt.im = .im2 := h
  simp only [State.acceptInt, him]

/-- The two states are the same in everything that the answers to reads depend on. -/
structure ReadsAlike (s t : State) : Prop where
  mem : t.mem = s.mem
  memMap : t.memMap = s.memMap
  trace : t.trace = s.trace
  draws : t.draws = s.draws

theorem ReadsAlike.read8 {s t : State} (h : ReadsAlike s t) (a : Word) :
    (t.read8 a).1 = (s.read8 a).1 ∧ ReadsAlike (s.read8 a).2 (t.read8 a).2 := by
  obtain ⟨hmem, hmap, htrace, hdraws⟩ := h
  have hkind : t.kindAt a = s.kindAt a := State.kindAt_of_memMap a hmap
  simp only [State.read8, hkind, hmem, htrace]
  cases s.kindAt a with
  | ram | rom => exact ⟨rfl, hmem, hmap, htrace, hdraws⟩
  | absent => exact ⟨congrArg Config.freeByte hdraws, hmem, hmap, htrace, congrArg (· + 1) hdraws⟩
  | device => exact ⟨rfl, hmem, hmap, congrArg (· ++ _) htrace, hdraws⟩

theorem ReadsAlike.wordReadAt_eq {s t : State} (h : ReadsAlike s t) (a : Word) : wordReadAt a t = wordReadAt a s := by
  obtain ⟨hlow, hafter⟩ := h.read8 a
  obtain ⟨hhigh, -⟩ := hafter.read8 (a + 1)
  rw [wordReadAt, wordReadAt, hlow, hhigh]

/-- What a word's reads add to the trace depends on the map alone, once the accesses before are given. -/
theorem wordReadEventsAfter_of_memMap {s t : State} (h : t.memMap = s.memMap) (past : List BusEvent) (a : Word) :
    wordReadEventsAfter past a t = wordReadEventsAfter past a s := by
  simp only [wordReadEventsAfter, readEventsAfter, State.kindAt_of_memMap _ h]

/-- The address in the table, from the state before (R428). -/
def State.vectorPointer (s : State) : Word := joinBytes s.i s.nextInputs.busByte

/-- The state after the push of an acceptance in mode 2, in which the table is read. -/
def State.beforeVector (s : State) : State := s.sample.acknowledgeInt.push16 s.pc

/-- The state after the reads of the table, which give the new PC. -/
def State.afterVector (s : State) : State :=
  (s.beforeVector.read16 s.vectorPointer).2.jumpTo (wordReadAt s.vectorPointer s.beforeVector)

/-- The model computes the pointer after the push, which leaves I and the bus byte as they were. -/
theorem State.enterMode2_eq_afterVector (s : State) : s.sample.acknowledgeInt.enterMode2 = s.afterVector := by
  have hi : s.beforeVector.i = s.i := State.push16_i _ _
  have hnow : s.beforeVector.now = s.nextInputs := State.push16_now _ _
  rw [State.afterVector, State.vectorPointer, ← hi, ← hnow]
  rfl

theorem State.frame_afterVector (s : State) : changesOnly [.pc, .trace, .draws] s.beforeVector s.afterVector :=
  ((State.frame_read16 _ _).mono (by simp)).andThen (State.frame_jumpTo _ _) (by simp)

theorem State.takenInt_afterVector (s : State) : TakenInt s s.afterVector := by
  have hpush := s.sample.acknowledgeInt.frame_push16 s.pc
  exact takenInt_of_frame
    ((hpush.mono (List.subset_append_left _ [.pc, .trace, .draws])).andThen s.frame_afterVector (by simp)) (by simp)

theorem State.memMap_beforeVector (s : State) : s.beforeVector.memMap = s.memMap :=
  s.sample.acknowledgeInt.push16_memMap s.pc

theorem State.draws_beforeVector (s : State) : s.beforeVector.draws = s.draws :=
  s.sample.acknowledgeInt.push16_draws s.pc

/-- Where memory answers at the pointer, PC is the word it then holds there, and only the push was observed. -/
theorem State.afterVector_of_readable {s : State} (h : s.readable s.vectorPointer)
    (h' : s.readable (s.vectorPointer + 1)) :
    s.afterVector.pc =
        joinBytes (s.afterVector.byteAt (s.vectorPointer + 1)) (s.afterVector.byteAt s.vectorPointer) ∧
      s.afterVector.trace = s.beforeVector.trace := by
  have hread : ∀ a, s.readable a → s.beforeVector.readable a := fun a ha => by
    rwa [State.readable, State.kindAt_of_memMap a s.memMap_beforeVector]
  have hbyte : ∀ a, s.afterVector.byteAt a = s.beforeVector.byteAt a := fun a => State.read16_byteAt _ a _
  rw [hbyte, hbyte]
  exact wordRead_of_readable rfl (State.trace_read16 _ _) (hread _ h) (hread _ h')

/-- After the push come the reads of the table, the low byte's first. -/
theorem State.trace_afterVector (s : State) :
    s.afterVector.trace =
      s.beforeVector.trace ++ wordReadEventsAfter s.beforeVector.trace s.vectorPointer s := by
  rw [← wordReadEventsAfter_of_memMap s.memMap_beforeVector]
  exact State.trace_read16 _ _

/-- PC is what any state would read at the pointer that has the memory after the push, the map, that trace and the free
values still to be drawn. -/
theorem State.pc_afterVector {s u : State} (hmem : u.mem = s.afterVector.mem) (hmap : u.memMap = s.memMap)
    (htrace : u.trace = s.beforeVector.trace) (hdraws : u.draws = s.draws) :
    s.afterVector.pc = wordReadAt s.vectorPointer u := by
  have halike : ReadsAlike s.beforeVector u := {
    mem := hmem.trans (s.beforeVector.read16_mem s.vectorPointer)
    memMap := hmap.trans s.memMap_beforeVector.symm
    trace := htrace
    draws := hdraws.trans s.draws_beforeVector.symm }
  exact (halike.wordReadAt_eq s.vectorPointer).symm

/-- Settles O13: PC is pushed, and then the reads of the table change only PC, the trace and the free values. -/
theorem intAcceptanceMode2 : Obligations.IntAcceptanceMode2 := by
  unfold Obligations.IntAcceptanceMode2
  intro s hint him
  have haccept := State.acceptInt_of_im2 (s := s.sample) him
  rw [State.enterMode2_eq_afterVector] at haccept
  obtain ⟨hsp, hhigh, hlow, htrace, hpush⟩ : Pushes _ s.pc s s.beforeVector := pushes_acknowledgeInt hint
  obtain ⟨hiff1, hiff2, hhalted, hr, hnow, hinputs⟩ := s.takenInt_afterVector
  have hread := s.frame_afterVector
  refine ⟨_, (step_of_takesInt hint).trans haccept, ?_⟩
  rw [← htrace]
  refine ⟨Eq.trans (hread .sp (by simp)) hsp, hiff1, hiff2, hhalted, hr, hnow, hinputs,
    Eq.trans (hread (.byte _) (by simp)) hhigh, Eq.trans (hread (.byte _) (by simp)) hlow,
    State.afterVector_of_readable, ?_, (hpush.mono (by simp)).andThen hread (by simp)⟩
  rintro past rfl
  exact ⟨s.trace_afterVector, fun u => State.pc_afterVector⟩

end Sys2Proof.Machine
end

section
/-!
PROOF of O60: a step takes one record of inputs, and the port reads of the instruction at PC read its answer (R441).

Sampling takes the record; every piece of work after it leaves the inputs alone. The instruction at PC runs in a state
that differs from the one before the step only where it does not look (`StepRunsEncodedInstruction`, O7).
-/

namespace Sys2Proof.Machine

/-! ## One record a step -/

/-- From `s` to `t` one record has been taken from the list. -/
def TakesRecord (s t : State) : Prop := t.now = s.nextInputs ∧ t.inputs = s.inputs.tail

/-- Work after a sampling that leaves the inputs alone takes no further record. -/
theorem takesRecord_of_frame {ps : List Piece} {s t u : State} (hu : TakesRecord s u) (h : changesOnly ps u t)
    (hps : [Piece.now, .inputs].Disjoint ps) : TakesRecord s t := by
  obtain ⟨hnow, hinputs⟩ := hu
  exact ⟨Eq.trans (h .now (hps (by simp))) hnow, Eq.trans (h .inputs (hps (by simp))) hinputs⟩

theorem step_takesRecord {s t : State} (ht : step s = .next t) : TakesRecord s t := by
  obtain rfl | ⟨-, rfl⟩ | ⟨-, target, rfl⟩ | ⟨-, rfl⟩ | ⟨-, rfl⟩ | ⟨-, i, rest, -, hexec⟩ := step_next_cases ht
  · exact ⟨rfl, rfl⟩
  · rw [State.acceptNmi_eq]
    exact takesRecord_of_frame ⟨rfl, rfl⟩ (s.sample.acknowledgeNmi.frame_callTo _ _) (by simp)
  · obtain ⟨-, -, -, -, hnow, hinputs⟩ :=
      takenInt_of_frame (s.sample.acknowledgeInt.frame_callTo target s.pc) (by simp)
    exact ⟨hnow, hinputs⟩
  · obtain ⟨-, -, -, -, hnow, hinputs⟩ := s.takenInt_afterVector
    rw [State.enterMode2_eq_afterVector]
    exact ⟨hnow, hinputs⟩
  · exact ⟨rfl, rfl⟩
  · obtain ⟨hnow, hinputs⟩ := s.now_inputs_fetched
    have hkept := (exec_maintains i _ t hexec).control
    exact ⟨Eq.trans (hkept .now rfl) hnow, Eq.trans (hkept .inputs rfl) hinputs⟩

/-! ## The answer at the instruction at PC -/

/-- The instruction at PC runs in a state whose inputs carry the boundary's answer and which agrees with the state
before the step in all that an input looks at. -/
theorem exec_of_instructionAtPC {s : State} {i : Instr} {v : Byte} (hwf : i.wellFormed = true)
    (hruns : s.runsInstruction) (hat : s.instructionAtPC i) (hv : s.nextInputs.portByte = some v) :
    ∃ u, step s = exec i u ∧ u.now.portByte = some v ∧ changesOnly [.r, .eiShadow, .now, .inputs] s u := by
  obtain ⟨u, hstep, -, -, hnow, -, hframe⟩ := stepRunsEncodedInstruction s i hwf hruns hat
  exact ⟨u, hstep, by rw [hnow, hv], hframe⟩

theorem step_inputsA {s : State} {n v : Byte} (hruns : s.runsInstruction) (hat : s.instructionAtPC (.inAImm n))
    (hv : s.nextInputs.portByte = some v) :
    ∃ t, step s = .next t ∧ t.a = v ∧ t.trace = s.trace ++ [.portRead (joinBytes s.a n) v] := by
  obtain ⟨u, hstep, hanswer, hframe⟩ := exec_of_instructionAtPC rfl hruns hat hv
  have ha : u.a = s.a := hframe (.reg .a) (by simp)
  have hpast : u.trace = s.trace := hframe .trace (by simp)
  obtain ⟨t, w, hexec, hta, htrace, hw, -⟩ := exec_inAImm_inputsA n u
  obtain rfl := hw v hanswer
  rw [ha, hpast] at htrace
  exact ⟨t, hstep.trans hexec, hta, htrace⟩

theorem step_inputsReg {s : State} {r : Reg8} {v : Byte} (hruns : s.runsInstruction)
    (hat : s.instructionAtPC (.inRegC r)) (hv : s.nextInputs.portByte = some v) :
    ∃ t, step s = .next t ∧ t.reg8 r = v ∧ t.trace = s.trace ++ [.portRead (joinBytes s.b s.c) v] := by
  obtain ⟨u, hstep, hanswer, hframe⟩ := exec_of_instructionAtPC rfl hruns hat hv
  have hb : u.b = s.b := hframe (.reg .b) (by simp)
  have hc : u.c = s.c := hframe (.reg .c) (by simp)
  have hpast : u.trace = s.trace := hframe .trace (by simp)
  obtain ⟨t, w, hexec, htr, htrace, hw, -⟩ := exec_inRegC_inputsReg r u
  obtain rfl := hw v hanswer
  rw [hb, hc, hpast] at htrace
  exact ⟨t, hstep.trans hexec, htr, htrace⟩

theorem wellFormed_blockInputs : ∀ x ∈ blockInputs, x.1.wellFormed = true := by decide

theorem step_inputsByte {s : State} {v : Byte} {x : Instr × Word × Bool} (hx : x ∈ blockInputs)
    (hruns : s.runsInstruction) (hat : s.instructionAtPC x.1) (hv : s.nextInputs.portByte = some v) :
    ∃ t, step s = .next t ∧ landed s.hl v s t ∧
      t.trace = s.trace ++ [.portRead (joinBytes s.b s.c) v] ++ writeEvents s.hl v s := by
  obtain ⟨u, hstep, hanswer, hframe⟩ := exec_of_instructionAtPC (wellFormed_blockInputs x hx) hruns hat hv
  have hb : u.b = s.b := hframe (.reg .b) (by simp)
  have hc : u.c = s.c := hframe (.reg .c) (by simp)
  have hhl : u.hl = s.hl := congrArg₂ joinBytes (hframe (.reg .h) (by simp)) (hframe (.reg .l) (by simp))
  have hpast : u.trace = s.trace := hframe .trace (by simp)
  have hbyte : u.byteAt s.hl = s.byteAt s.hl := hframe (.byte s.hl) (by simp)
  have hkind : u.kindAt s.hl = s.kindAt s.hl := State.kindAt_of_memMap _ (hframe .memMap (by simp))
  obtain ⟨t, w, hexec, hlanded, hw, htrace, -⟩ := exec_inputsByte u x hx
  obtain rfl := hw v hanswer
  simp only [landed, writeEvents, hb, hc, hhl, hpast, hbyte, hkind] at hlanded htrace
  exact ⟨t, hstep.trans hexec, hlanded, htrace⟩

/-- Settles O60: the record is the head of the list or the quiet one; each input reads its answer. -/
theorem stepTakesOneInputRecord : Obligations.StepTakesOneInputRecord := by
  unfold Obligations.StepTakesOneInputRecord
  refine ⟨fun s t ht => ?_, fun _ _ _ => step_inputsA, fun _ _ _ => step_inputsReg, fun s v i hi hruns hat hv => ?_⟩
  · obtain ⟨hnow, hinputs⟩ := step_takesRecord ht
    rw [hnow, hinputs, State.nextInputs]
    constructor
    · intro hempty
      rw [hempty]
      exact ⟨rfl, rfl⟩
    · intro x rest hlist
      rw [hlist]
      exact ⟨rfl, rfl⟩
  · have hmem : i ∈ blockInputs.map Prod.fst := by
      simp only [List.mem_cons, blockInputs, List.map_cons, List.map_nil] at hi ⊢
      tauto
    obtain ⟨x, hx, rfl⟩ := List.mem_map.mp hmem
    exact step_inputsByte hx hruns hat hv

end Sys2Proof.Machine
end
